-- ==== Sys2Proof/Word.lean ====
section
/-! DEFINITION. The word and byte types and the small index types of the block (00 R7: two ports, two UARTs,
four function-select registers), with tables indexed by them. -/

namespace Sys2Proof

/-- A 32-bit word: a register, an address, a command word (00 R8). -/
abbrev Word := BitVec 32

/-- A byte: a buffer slot, a FIFO entry, a RAM cell. -/
abbrev Byte := BitVec 8

/-- Index of one of two like things: a GPIO port (`NPORTS = 2`) or a UART (`NUARTS = 2`). -/
inductive Two where
  | zero
  | one
  deriving DecidableEq, Repr

/-- A GPIO port, 0 or 1. -/
abbrev Port := Two

/-- A UART identifier, 0 or 1. -/
abbrev Uid := Two

/-- Index of a function-select register, 0 to 3. -/
inductive Four where
  | zero
  | one
  | two
  | three
  deriving DecidableEq, Repr

/-- A GPIO pin, global index 0 to 63 (`NPINS = 64`). -/
abbrev Pin := Fin 64

def Two.toNat : Two → Nat
  | .zero => 0
  | .one => 1

def Four.toNat : Four → Nat
  | .zero => 0
  | .one => 1
  | .two => 2
  | .three => 3

/-- Both members of `Two`, in order. -/
def Two.all : List Two := [.zero, .one]

/-- Two values of one kind, one for each port or UART. -/
structure Pair (α : Type) where
  at0 : α
  at1 : α
  deriving DecidableEq, Repr

def Pair.get {α : Type} (p : Pair α) : Two → α
  | .zero => p.at0
  | .one => p.at1

def Pair.set {α : Type} (p : Pair α) : Two → α → Pair α
  | .zero, v => { p with at0 := v }
  | .one, v => { p with at1 := v }

/-- Four values of one kind, one for each function-select register. -/
structure Quad (α : Type) where
  at0 : α
  at1 : α
  at2 : α
  at3 : α
  deriving DecidableEq, Repr

def Quad.get {α : Type} (q : Quad α) : Four → α
  | .zero => q.at0
  | .one => q.at1
  | .two => q.at2
  | .three => q.at3

def Quad.set {α : Type} (q : Quad α) : Four → α → Quad α
  | .zero, v => { q with at0 := v }
  | .one, v => { q with at1 := v }
  | .two, v => { q with at2 := v }
  | .three, v => { q with at3 := v }

end Sys2Proof
end

