-- ==== Sys2Proof/Machine/Bits.lean ====
section
/-! DEFINITION. Bit-field helpers (00 R8). -/

namespace Sys2Proof

/-- The word whose bits below `n` are given by `f`, and whose other bits are 0. -/
def bitsBelow (f : Nat → Bool) : Nat → Word
  | 0 => 0#32
  | n + 1 => bitsBelow f n ||| (if f n then 1#32 <<< n else 0#32)

/-- The word whose bit `b` is `f b`, for `b` in 0..31. -/
def wordOfBits (f : Nat → Bool) : Word := bitsBelow f 32

/-- `v[b]` (00 R8). -/
def bitOf (v : Word) (b : Nat) : Bool := v.getLsbD b

/-- The word with bit `b` set to `x` and every other bit 0. -/
def bitAt (b : Nat) (x : Bool) : Word := if x then 1#32 <<< b else 0#32

/-- `v` with bit `b` replaced by `x`. -/
def setBit (v : Word) (b : Nat) (x : Bool) : Word := (v &&& ~~~(1#32 <<< b)) ||| bitAt b x

/-- `v[2j+1 : 2j]`: the function code in slot `j` of a function-select register (30 R113). -/
def slotOf (v : Word) (j : Nat) : BitVec 2 := v.extractLsb' (2 * j) 2

/-- 41 R189: the OR of `code << 2j` over the slots `j` in 0..15 that `sel` chooses. -/
def spreadSlots (sel : Nat → Bool) (code : BitVec 2) : Word :=
  wordOfBits (fun b => sel (b / 2) && code.getLsbD (b % 2))

/-- 30 R110: the data byte of a word. -/
def lowByte (v : Word) : Byte := v.extractLsb' 0 8

/-- `zext_32` of a byte. -/
def zextByte (b : Byte) : Word := b.setWidth 32

end Sys2Proof
end

