-- ==== Sys2Proof/Config.lean ====
section
/-! DEFINITION. What is fixed for the machine (00 R7) and the free values (00 R9, `draw`). The parameters the spec
leaves OPEN are not here: they are carried as data in `State` (`Machine/State.lean`, log 9), so that a statement
about every state holds for every value of them. -/

namespace Sys2Proof.Config

/-- PRESUMED by the spec (00 R7, D8; log 23): base of the GPIO register window. -/
def gpioBase : Word := 0x80000000#32

/-- PRESUMED by the spec (00 R7, D8; log 23): base of each UART register window. -/
def uartBase : Uid → Word
  | .zero => 0x80005000#32
  | .one => 0x8000B000#32

/-- 20 R81: bytes of the GPIO window. -/
def gpioWindow : Nat := 0x68

/-- 20 R81: bytes of a UART window. -/
def uartWindow : Nat := 0x1C

/-- PRESUMED by the spec (00 R7, D43; log 23): first byte of RAM. -/
def ramBase : Nat := 0x00400000

/-- PRESUMED by the spec (00 R7, D43; log 23): bytes of RAM. -/
def ramSize : Nat := 0x18000

/-- 00 R7: capacity of the UART driver's buffers. -/
def uartCbCapacity : Nat := 256

/-- 00 R7: transmit watermark, in free slots. -/
def txWatermark : Word := 31#32

/-- 00 R7: receive watermark, in pending bytes. -/
def rxWatermark : Word := 1#32

/-- 00 R7: modulus of the baud register. -/
def baudMod : Nat := 9999

/-- 00 R7: `core_clock >> 4`. -/
def baudClockShift : Nat := 4

/-- PRESUMED by the spec (00 R7, D36; log 23): the function code that gives a UART pin to its UART. -/
def uartPinFunc : BitVec 2 := 1#2

/-- 00 R7, D3: the value `ret` takes on an error return, -1 as int32. -/
def errSentinel : Word := 0xFFFFFFFF#32

/-- DESIGN CHOICE (log 5): how many atomic steps beyond the first the active context may take in one step of the
model when the schedule does not say. -/
def defaultSlice : Nat := 4095

/-- 00 R9 `draw u32`: free values, one for each draw (log 13). No proof can see them. -/
opaque freeWord : Nat → Word

/-- A free byte for each draw (log 13, log 15). -/
opaque freeByte : Nat → Byte

end Sys2Proof.Config
end

