-- ==== Sys2Proof/Syntax.lean ====
section
/-! DEFINITION. The registers of the bus (30 R106, R107) and the instructions: one constructor for each row of
spec/opcode_table.json, the 35 commands of 30 R102 and the read and write of each of the 40 registers. -/

namespace Sys2Proof

/-- A register of the GPIO block (30 R106) or of a UART block (30 R107), with its port, function-register index or
UART. -/
inductive Reg where
  /-- `GPIO_PAD_DIR<n>`: direction. -/
  | padDir (n : Port)
  /-- `GPIO_DATA<n>`: data. -/
  | data (n : Port)
  /-- `GPIO_PAD_PU_EN<n>`: pull enable. -/
  | puEn (n : Port)
  /-- `GPIO_FUNC_SEL<k>`: function select. -/
  | funcSel (n : Four)
  /-- `GPIO_DATA_SEL<n>`: data select. -/
  | dataSel (n : Port)
  /-- `GPIO_PAD_PU_SEL<n>`: pull select. -/
  | puSel (n : Port)
  /-- `GPIO_PAD_HYST_EN<n>`: hysteresis enable. -/
  | hystEn (n : Port)
  /-- `GPIO_PAD_KEEP<n>`: keep. -/
  | keep (n : Port)
  /-- `GPIO_DATA_SET<n>`: data set. -/
  | dataSet (n : Port)
  /-- `GPIO_DATA_RESET<n>`: data reset. -/
  | dataReset (n : Port)
  /-- `GPIO_PAD_DIR_SET<n>`: direction set. -/
  | dirSet (n : Port)
  /-- `GPIO_PAD_DIR_RESET<n>`: direction reset. -/
  | dirReset (n : Port)
  /-- `UCON<i>`: control. -/
  | ucon (n : Uid)
  /-- `USTAT<i>`: status. -/
  | ustat (n : Uid)
  /-- `UDATA<i>`: data. -/
  | udata (n : Uid)
  /-- `URXCON<i>`: receive level and threshold. -/
  | urxcon (n : Uid)
  /-- `UTXCON<i>`: transmit free slots and threshold. -/
  | utxcon (n : Uid)
  /-- `UCTS<i>`: flow control (not modelled by the spec). -/
  | ucts (n : Uid)
  /-- `UBRCNT<i>`: baud. -/
  | ubrcnt (n : Uid)
  deriving DecidableEq, Repr

/-- An instruction. A command carries its argument words (30 R103). A register row carries the word written, if any;
it is the command `bus.read` or `bus.write` at that register's address (log 1). -/
inductive Instr where
  /-- `gpio.set_port_dir` (0x01), R181. -/
  | gpioSetPortDir (port mask dir : Word)
  /-- `gpio.set_pin_dir` (0x02), R182. -/
  | gpioSetPinDir (pin dir : Word)
  /-- `gpio.set_port` (0x03), R183. -/
  | gpioSetPort (port mask : Word)
  /-- `gpio.clear_port` (0x04), R184. -/
  | gpioClearPort (port mask : Word)
  /-- `gpio.set_pin` (0x05), R185. -/
  | gpioSetPin (pin : Word)
  /-- `gpio.clear_pin` (0x06), R186. -/
  | gpioClearPin (pin : Word)
  /-- `gpio.get_port` (0x07), R187. -/
  | gpioGetPort (port : Word)
  /-- `gpio.get_pin` (0x08), R188. -/
  | gpioGetPin (pin : Word)
  /-- `gpio.set_port_func` (0x09), R189. -/
  | gpioSetPortFunc (port func mask : Word)
  /-- `gpio.set_pin_func` (0x0A), R190. -/
  | gpioSetPinFunc (pin func : Word)
  /-- `cs.disable_interrupts` (0x10), R221. -/
  | csDisableInterrupts
  /-- `cs.restore_interrupts` (0x11), R222. -/
  | csRestoreInterrupts (saved : Word)
  /-- `cs.disable_irq` (0x12), R223. -/
  | csDisableIrq
  /-- `cs.restore_irq` (0x13), R224. -/
  | csRestoreIrq (saved : Word)
  /-- `cs.disable_fiq` (0x14), R225. -/
  | csDisableFiq
  /-- `cs.restore_fiq` (0x15), R226. -/
  | csRestoreFiq (saved : Word)
  /-- `cs.set_handler` (0x16), R227. -/
  | csSetHandler (kind handler : Word)
  /-- `cs.get_handler` (0x17), R228. -/
  | csGetHandler (kind : Word)
  /-- `cb.init` (0x20), R252. -/
  | cbInit (h storage cap : Word)
  /-- `cb.is_empty` (0x21), R253. -/
  | cbIsEmpty (h : Word)
  /-- `cb.is_full` (0x22), R254. -/
  | cbIsFull (h : Word)
  /-- `cb.write` (0x23), R255. -/
  | cbWrite (h byte : Word)
  /-- `cb.read` (0x24), R256. -/
  | cbRead (h : Word)
  /-- `uart.init` (0x30), R342. -/
  | uartInit (id baud name : Word)
  /-- `uart.send_byte` (0x31), R343. -/
  | uartSendByte (id byte : Word)
  /-- `uart.receive_byte` (0x32), R344. -/
  | uartReceiveByte (id : Word)
  /-- `uart.send` (0x33), R345. -/
  | uartSend (id buf count : Word)
  /-- `uart.receive` (0x34), R346. -/
  | uartReceive (id buf count : Word)
  /-- `uart.set_rx_callback` (0x35), R347. -/
  | uartSetRxCallback (id fn : Word)
  /-- `uart.set_tx_callback` (0x36), R348. -/
  | uartSetTxCallback (id fn : Word)
  /-- `itc.set_priority` (0x40), R391. -/
  | itcSetPriority (src level : Word)
  /-- `itc.set_handler` (0x41), R392. -/
  | itcSetHandler (src handler : Word)
  /-- `itc.enable_interrupt` (0x42), R393. -/
  | itcEnableInterrupt (src : Word)
  /-- `bus.read` (0x50), R140. -/
  | busRead (addr : Word)
  /-- `bus.write` (0x51), R141. -/
  | busWrite (addr value : Word)
  /-- `mmio.read_GPIO_PAD_DIR0`, R142. -/
  | mmioReadGpioPadDir0
  /-- `mmio.write_GPIO_PAD_DIR0`, R143. -/
  | mmioWriteGpioPadDir0 (value : Word)
  /-- `mmio.read_GPIO_PAD_DIR1`, R142. -/
  | mmioReadGpioPadDir1
  /-- `mmio.write_GPIO_PAD_DIR1`, R143. -/
  | mmioWriteGpioPadDir1 (value : Word)
  /-- `mmio.read_GPIO_DATA0`, R144. -/
  | mmioReadGpioData0
  /-- `mmio.write_GPIO_DATA0`, R145. -/
  | mmioWriteGpioData0 (value : Word)
  /-- `mmio.read_GPIO_DATA1`, R144. -/
  | mmioReadGpioData1
  /-- `mmio.write_GPIO_DATA1`, R145. -/
  | mmioWriteGpioData1 (value : Word)
  /-- `mmio.read_GPIO_PAD_PU_EN0`, R148. -/
  | mmioReadGpioPadPuEn0
  /-- `mmio.write_GPIO_PAD_PU_EN0`, R149. -/
  | mmioWriteGpioPadPuEn0 (value : Word)
  /-- `mmio.read_GPIO_PAD_PU_EN1`, R148. -/
  | mmioReadGpioPadPuEn1
  /-- `mmio.write_GPIO_PAD_PU_EN1`, R149. -/
  | mmioWriteGpioPadPuEn1 (value : Word)
  /-- `mmio.read_GPIO_FUNC_SEL0`, R146. -/
  | mmioReadGpioFuncSel0
  /-- `mmio.write_GPIO_FUNC_SEL0`, R147. -/
  | mmioWriteGpioFuncSel0 (value : Word)
  /-- `mmio.read_GPIO_FUNC_SEL1`, R146. -/
  | mmioReadGpioFuncSel1
  /-- `mmio.write_GPIO_FUNC_SEL1`, R147. -/
  | mmioWriteGpioFuncSel1 (value : Word)
  /-- `mmio.read_GPIO_FUNC_SEL2`, R146. -/
  | mmioReadGpioFuncSel2
  /-- `mmio.write_GPIO_FUNC_SEL2`, R147. -/
  | mmioWriteGpioFuncSel2 (value : Word)
  /-- `mmio.read_GPIO_FUNC_SEL3`, R146. -/
  | mmioReadGpioFuncSel3
  /-- `mmio.write_GPIO_FUNC_SEL3`, R147. -/
  | mmioWriteGpioFuncSel3 (value : Word)
  /-- `mmio.read_GPIO_DATA_SEL0`, R152. -/
  | mmioReadGpioDataSel0
  /-- `mmio.write_GPIO_DATA_SEL0`, R153. -/
  | mmioWriteGpioDataSel0 (value : Word)
  /-- `mmio.read_GPIO_DATA_SEL1`, R152. -/
  | mmioReadGpioDataSel1
  /-- `mmio.write_GPIO_DATA_SEL1`, R153. -/
  | mmioWriteGpioDataSel1 (value : Word)
  /-- `mmio.read_GPIO_PAD_PU_SEL0`, R150. -/
  | mmioReadGpioPadPuSel0
  /-- `mmio.write_GPIO_PAD_PU_SEL0`, R151. -/
  | mmioWriteGpioPadPuSel0 (value : Word)
  /-- `mmio.read_GPIO_PAD_PU_SEL1`, R150. -/
  | mmioReadGpioPadPuSel1
  /-- `mmio.write_GPIO_PAD_PU_SEL1`, R151. -/
  | mmioWriteGpioPadPuSel1 (value : Word)
  /-- `mmio.read_GPIO_PAD_HYST_EN0`, R154. -/
  | mmioReadGpioPadHystEn0
  /-- `mmio.write_GPIO_PAD_HYST_EN0`, R155. -/
  | mmioWriteGpioPadHystEn0 (value : Word)
  /-- `mmio.read_GPIO_PAD_HYST_EN1`, R154. -/
  | mmioReadGpioPadHystEn1
  /-- `mmio.write_GPIO_PAD_HYST_EN1`, R155. -/
  | mmioWriteGpioPadHystEn1 (value : Word)
  /-- `mmio.read_GPIO_PAD_KEEP0`, R165. -/
  | mmioReadGpioPadKeep0
  /-- `mmio.write_GPIO_PAD_KEEP0`, R166. -/
  | mmioWriteGpioPadKeep0 (value : Word)
  /-- `mmio.read_GPIO_PAD_KEEP1`, R165. -/
  | mmioReadGpioPadKeep1
  /-- `mmio.write_GPIO_PAD_KEEP1`, R166. -/
  | mmioWriteGpioPadKeep1 (value : Word)
  /-- `mmio.read_GPIO_DATA_SET0`, R156. -/
  | mmioReadGpioDataSet0
  /-- `mmio.write_GPIO_DATA_SET0`, R157. -/
  | mmioWriteGpioDataSet0 (value : Word)
  /-- `mmio.read_GPIO_DATA_SET1`, R156. -/
  | mmioReadGpioDataSet1
  /-- `mmio.write_GPIO_DATA_SET1`, R157. -/
  | mmioWriteGpioDataSet1 (value : Word)
  /-- `mmio.read_GPIO_DATA_RESET0`, R158. -/
  | mmioReadGpioDataReset0
  /-- `mmio.write_GPIO_DATA_RESET0`, R159. -/
  | mmioWriteGpioDataReset0 (value : Word)
  /-- `mmio.read_GPIO_DATA_RESET1`, R158. -/
  | mmioReadGpioDataReset1
  /-- `mmio.write_GPIO_DATA_RESET1`, R159. -/
  | mmioWriteGpioDataReset1 (value : Word)
  /-- `mmio.read_GPIO_PAD_DIR_SET0`, R160. -/
  | mmioReadGpioPadDirSet0
  /-- `mmio.write_GPIO_PAD_DIR_SET0`, R161. -/
  | mmioWriteGpioPadDirSet0 (value : Word)
  /-- `mmio.read_GPIO_PAD_DIR_SET1`, R160. -/
  | mmioReadGpioPadDirSet1
  /-- `mmio.write_GPIO_PAD_DIR_SET1`, R161. -/
  | mmioWriteGpioPadDirSet1 (value : Word)
  /-- `mmio.read_GPIO_PAD_DIR_RESET0`, R162. -/
  | mmioReadGpioPadDirReset0
  /-- `mmio.write_GPIO_PAD_DIR_RESET0`, R163. -/
  | mmioWriteGpioPadDirReset0 (value : Word)
  /-- `mmio.read_GPIO_PAD_DIR_RESET1`, R162. -/
  | mmioReadGpioPadDirReset1
  /-- `mmio.write_GPIO_PAD_DIR_RESET1`, R163. -/
  | mmioWriteGpioPadDirReset1 (value : Word)
  /-- `mmio.read_UCON0`, R280. -/
  | mmioReadUcon0
  /-- `mmio.write_UCON0`, R281. -/
  | mmioWriteUcon0 (value : Word)
  /-- `mmio.read_UCON1`, R280. -/
  | mmioReadUcon1
  /-- `mmio.write_UCON1`, R281. -/
  | mmioWriteUcon1 (value : Word)
  /-- `mmio.read_USTAT0`, R282. -/
  | mmioReadUstat0
  /-- `mmio.write_USTAT0`, R283. -/
  | mmioWriteUstat0 (value : Word)
  /-- `mmio.read_USTAT1`, R282. -/
  | mmioReadUstat1
  /-- `mmio.write_USTAT1`, R283. -/
  | mmioWriteUstat1 (value : Word)
  /-- `mmio.read_UDATA0`, R284. -/
  | mmioReadUdata0
  /-- `mmio.write_UDATA0`, R285. -/
  | mmioWriteUdata0 (value : Word)
  /-- `mmio.read_UDATA1`, R284. -/
  | mmioReadUdata1
  /-- `mmio.write_UDATA1`, R285. -/
  | mmioWriteUdata1 (value : Word)
  /-- `mmio.read_URXCON0`, R286. -/
  | mmioReadUrxcon0
  /-- `mmio.write_URXCON0`, R287. -/
  | mmioWriteUrxcon0 (value : Word)
  /-- `mmio.read_URXCON1`, R286. -/
  | mmioReadUrxcon1
  /-- `mmio.write_URXCON1`, R287. -/
  | mmioWriteUrxcon1 (value : Word)
  /-- `mmio.read_UTXCON0`, R288. -/
  | mmioReadUtxcon0
  /-- `mmio.write_UTXCON0`, R289. -/
  | mmioWriteUtxcon0 (value : Word)
  /-- `mmio.read_UTXCON1`, R288. -/
  | mmioReadUtxcon1
  /-- `mmio.write_UTXCON1`, R289. -/
  | mmioWriteUtxcon1 (value : Word)
  /-- `mmio.read_UCTS0`, R292. -/
  | mmioReadUcts0
  /-- `mmio.write_UCTS0`, R292. -/
  | mmioWriteUcts0 (value : Word)
  /-- `mmio.read_UCTS1`, R292. -/
  | mmioReadUcts1
  /-- `mmio.write_UCTS1`, R292. -/
  | mmioWriteUcts1 (value : Word)
  /-- `mmio.read_UBRCNT0`, R290. -/
  | mmioReadUbrcnt0
  /-- `mmio.write_UBRCNT0`, R291. -/
  | mmioWriteUbrcnt0 (value : Word)
  /-- `mmio.read_UBRCNT1`, R290. -/
  | mmioReadUbrcnt1
  /-- `mmio.write_UBRCNT1`, R291. -/
  | mmioWriteUbrcnt1 (value : Word)
  deriving DecidableEq, Repr

/-- The instruction that reads a register over the bus. -/
def Reg.readForm : Reg → Instr
  | .padDir .zero => .mmioReadGpioPadDir0
  | .padDir .one => .mmioReadGpioPadDir1
  | .data .zero => .mmioReadGpioData0
  | .data .one => .mmioReadGpioData1
  | .puEn .zero => .mmioReadGpioPadPuEn0
  | .puEn .one => .mmioReadGpioPadPuEn1
  | .funcSel .zero => .mmioReadGpioFuncSel0
  | .funcSel .one => .mmioReadGpioFuncSel1
  | .funcSel .two => .mmioReadGpioFuncSel2
  | .funcSel .three => .mmioReadGpioFuncSel3
  | .dataSel .zero => .mmioReadGpioDataSel0
  | .dataSel .one => .mmioReadGpioDataSel1
  | .puSel .zero => .mmioReadGpioPadPuSel0
  | .puSel .one => .mmioReadGpioPadPuSel1
  | .hystEn .zero => .mmioReadGpioPadHystEn0
  | .hystEn .one => .mmioReadGpioPadHystEn1
  | .keep .zero => .mmioReadGpioPadKeep0
  | .keep .one => .mmioReadGpioPadKeep1
  | .dataSet .zero => .mmioReadGpioDataSet0
  | .dataSet .one => .mmioReadGpioDataSet1
  | .dataReset .zero => .mmioReadGpioDataReset0
  | .dataReset .one => .mmioReadGpioDataReset1
  | .dirSet .zero => .mmioReadGpioPadDirSet0
  | .dirSet .one => .mmioReadGpioPadDirSet1
  | .dirReset .zero => .mmioReadGpioPadDirReset0
  | .dirReset .one => .mmioReadGpioPadDirReset1
  | .ucon .zero => .mmioReadUcon0
  | .ucon .one => .mmioReadUcon1
  | .ustat .zero => .mmioReadUstat0
  | .ustat .one => .mmioReadUstat1
  | .udata .zero => .mmioReadUdata0
  | .udata .one => .mmioReadUdata1
  | .urxcon .zero => .mmioReadUrxcon0
  | .urxcon .one => .mmioReadUrxcon1
  | .utxcon .zero => .mmioReadUtxcon0
  | .utxcon .one => .mmioReadUtxcon1
  | .ucts .zero => .mmioReadUcts0
  | .ucts .one => .mmioReadUcts1
  | .ubrcnt .zero => .mmioReadUbrcnt0
  | .ubrcnt .one => .mmioReadUbrcnt1

/-- The instruction that writes a register over the bus. -/
def Reg.writeForm (v : Word) : Reg → Instr
  | .padDir .zero => .mmioWriteGpioPadDir0 v
  | .padDir .one => .mmioWriteGpioPadDir1 v
  | .data .zero => .mmioWriteGpioData0 v
  | .data .one => .mmioWriteGpioData1 v
  | .puEn .zero => .mmioWriteGpioPadPuEn0 v
  | .puEn .one => .mmioWriteGpioPadPuEn1 v
  | .funcSel .zero => .mmioWriteGpioFuncSel0 v
  | .funcSel .one => .mmioWriteGpioFuncSel1 v
  | .funcSel .two => .mmioWriteGpioFuncSel2 v
  | .funcSel .three => .mmioWriteGpioFuncSel3 v
  | .dataSel .zero => .mmioWriteGpioDataSel0 v
  | .dataSel .one => .mmioWriteGpioDataSel1 v
  | .puSel .zero => .mmioWriteGpioPadPuSel0 v
  | .puSel .one => .mmioWriteGpioPadPuSel1 v
  | .hystEn .zero => .mmioWriteGpioPadHystEn0 v
  | .hystEn .one => .mmioWriteGpioPadHystEn1 v
  | .keep .zero => .mmioWriteGpioPadKeep0 v
  | .keep .one => .mmioWriteGpioPadKeep1 v
  | .dataSet .zero => .mmioWriteGpioDataSet0 v
  | .dataSet .one => .mmioWriteGpioDataSet1 v
  | .dataReset .zero => .mmioWriteGpioDataReset0 v
  | .dataReset .one => .mmioWriteGpioDataReset1 v
  | .dirSet .zero => .mmioWriteGpioPadDirSet0 v
  | .dirSet .one => .mmioWriteGpioPadDirSet1 v
  | .dirReset .zero => .mmioWriteGpioPadDirReset0 v
  | .dirReset .one => .mmioWriteGpioPadDirReset1 v
  | .ucon .zero => .mmioWriteUcon0 v
  | .ucon .one => .mmioWriteUcon1 v
  | .ustat .zero => .mmioWriteUstat0 v
  | .ustat .one => .mmioWriteUstat1 v
  | .udata .zero => .mmioWriteUdata0 v
  | .udata .one => .mmioWriteUdata1 v
  | .urxcon .zero => .mmioWriteUrxcon0 v
  | .urxcon .one => .mmioWriteUrxcon1 v
  | .utxcon .zero => .mmioWriteUtxcon0 v
  | .utxcon .one => .mmioWriteUtxcon1 v
  | .ucts .zero => .mmioWriteUcts0 v
  | .ucts .one => .mmioWriteUcts1 v
  | .ubrcnt .zero => .mmioWriteUbrcnt0 v
  | .ubrcnt .one => .mmioWriteUbrcnt1 v

end Sys2Proof
end

