-- ==== Sys2Proof/Machine/RegMap.lean ====
section
/-! DEFINITION. The register map: where each register lies (30 R106, R107), which register lies at an address, and the
register windows (20 R81). -/

namespace Sys2Proof

/-- Offset of a register from its block's base (30 R106, R107). -/
def Reg.offset : Reg → Nat
  | .padDir .zero => 0x00
  | .padDir .one => 0x04
  | .data .zero => 0x08
  | .data .one => 0x0C
  | .puEn .zero => 0x10
  | .puEn .one => 0x14
  | .funcSel .zero => 0x18
  | .funcSel .one => 0x1C
  | .funcSel .two => 0x20
  | .funcSel .three => 0x24
  | .dataSel .zero => 0x28
  | .dataSel .one => 0x2C
  | .puSel .zero => 0x30
  | .puSel .one => 0x34
  | .hystEn .zero => 0x38
  | .hystEn .one => 0x3C
  | .keep .zero => 0x40
  | .keep .one => 0x44
  | .dataSet .zero => 0x48
  | .dataSet .one => 0x4C
  | .dataReset .zero => 0x50
  | .dataReset .one => 0x54
  | .dirSet .zero => 0x58
  | .dirSet .one => 0x5C
  | .dirReset .zero => 0x60
  | .dirReset .one => 0x64
  | .ucon _ => 0x00
  | .ustat _ => 0x04
  | .udata _ => 0x08
  | .urxcon _ => 0x0C
  | .utxcon _ => 0x10
  | .ucts _ => 0x14
  | .ubrcnt _ => 0x18

/-- A register window (20 R81). -/
inductive Window where
  | gpio
  | uart (i : Uid)
  deriving DecidableEq, Repr

/-- The window a register lies in. -/
def Reg.window : Reg → Window
  | .ucon i => .uart i
  | .ustat i => .uart i
  | .udata i => .uart i
  | .urxcon i => .uart i
  | .utxcon i => .uart i
  | .ucts i => .uart i
  | .ubrcnt i => .uart i
  | .padDir _ => .gpio
  | .data _ => .gpio
  | .puEn _ => .gpio
  | .funcSel _ => .gpio
  | .dataSel _ => .gpio
  | .puSel _ => .gpio
  | .hystEn _ => .gpio
  | .keep _ => .gpio
  | .dataSet _ => .gpio
  | .dataReset _ => .gpio
  | .dirSet _ => .gpio
  | .dirReset _ => .gpio

def Window.base : Window → Word
  | .gpio => Config.gpioBase
  | .uart i => Config.uartBase i

def Window.size : Window → Nat
  | .gpio => Config.gpioWindow
  | .uart _ => Config.uartWindow

def Window.contains (win : Window) (a : Word) : Bool :=
  win.base.toNat ≤ a.toNat && a.toNat < win.base.toNat + win.size

/-- Every register window. -/
def Window.all : List Window := [.gpio, .uart .zero, .uart .one]

/-- 40 R140: `addr` is in some register window. -/
def inWindow (a : Word) : Bool := Window.all.any (·.contains a)

/-- The bus address of a register. -/
def Reg.addr (r : Reg) : Word := BitVec.ofNat 32 (r.window.base.toNat + r.offset)

/-- Every register, in address order within its block. -/
def Reg.all : List Reg :=
  [.padDir .zero, .padDir .one, .data .zero, .data .one, .puEn .zero, .puEn .one, .funcSel .zero, .funcSel .one, .funcSel .two]
  ++ [.funcSel .three, .dataSel .zero, .dataSel .one, .puSel .zero, .puSel .one, .hystEn .zero, .hystEn .one, .keep .zero, .keep .one]
  ++ [.dataSet .zero, .dataSet .one, .dataReset .zero, .dataReset .one, .dirSet .zero, .dirSet .one, .dirReset .zero, .dirReset .one]
  ++ [.ucon .zero, .ustat .zero, .udata .zero, .urxcon .zero, .utxcon .zero, .ucts .zero, .ubrcnt .zero]
  ++ [.ucon .one, .ustat .one, .udata .one, .urxcon .one, .utxcon .one, .ucts .one, .ubrcnt .one]

/-- The register at an address, if one is mapped there (30 R105, R117). -/
def regAt (a : Word) : Option Reg := Reg.all.find? (fun r => r.addr == a)

end Sys2Proof
end

