-- ==== Sys2Proof/Machine/State.lean ====
section
/-! DEFINITION. The machine's state as plain data (10_state.md), the reasons a step can stop (60 R412 to R414), and the
state right after reset (10 R50 to R58, 70 R450, R451). -/

namespace Sys2Proof.Machine

/-- Why a step faults. The first seventeen are the spec's own (60 R412); recording one is `State.recordFault`. Every one
is SAFE: the run ends badly and no claim about its end holds. -/
inductive Fault where
  /-- 43 R255: buffer write when full (undefined by contract). Raised by `cb.write` and the driver. Safe. -/
  | cbWriteFull
  /-- 43 R256: buffer read when empty (undefined by contract). Raised by `cb.read` and the driver. Safe. -/
  | cbReadEmpty
  /-- 43 R253 to R256: buffer used before `cb.init`. Raised by every buffer primitive but `cb.init`. Safe. -/
  | cbUninitialized
  /-- 43 R257: foreground access to an unmasked shared UART buffer. Raised by every buffer primitive. Safe. -/
  | disciplineViolation
  /-- 40 R147: a function-select write by the ISR context inside the foreground's read-modify-write. Safe. -/
  | funcSelRace
  /-- 40 R147: a UART pin given to a UART that is not enabled. Raised by a function-select write. Safe. -/
  | pinMuxBeforeEnable
  /-- 45 R352: a UART transfer before `uart.init`. Safe. -/
  | uartNotInitialized
  /-- 45 R342: a second `uart.init` of a UART. Safe. -/
  | uartReinit
  /-- 44 R297: `baud * 9999 >= 2^32`. Raised by `uart.init`. Safe. -/
  | baudOverflow
  /-- 44 R297: the divisor does not fit 16 bits. Raised by `uart.init`. Safe. -/
  | baudDivisorRange
  /-- 44 R285: data register written with the transmit FIFO full. Safe. -/
  | udataWriteFull
  /-- 44 R284: data register read with the receive FIFO empty. Safe. -/
  | udataReadEmpty
  /-- 40 R140, 30 R117: an aligned address of a window with no register. Raised by the bus commands. Safe. -/
  | unmappedRegister
  /-- 20 R85: a register access that is not 4-aligned. Raised by the bus commands. Safe. -/
  | badAccessWidth
  /-- 20 R95, 46 R390: a register access or controller call from unprivileged mode. Safe. -/
  | unprivilegedMmio
  /-- 60 R423: an interrupt deliverable while an ISR runs unmasked. Raised by the `CORE` agent. Safe. -/
  | nestedInterrupt
  /-- 20 R82: read of a RAM byte that holds no value. Raised by `uart.send`. Safe. -/
  | unwrittenMemory
  /-- 60 R414: the agent is stuck: an access outside every window and RAM has no step. Raised by the bus commands and
  the RAM accesses; never recorded in `faults`. Safe (log 7). -/
  | noStep
  /-- 10 R38: the program has ended and has no step. Raised by the step itself; never recorded. Safe (log 8). -/
  | runEnded
  deriving DecidableEq, Repr

/-- Why a step is refused (60 R413), with the host's `notModelled`. Every one is SAFE: the model declines the run. -/
inductive Refusal where
  /-- An instruction with no meaning yet; raised by `exec`'s arm only. Safe. -/
  | notModelled (mnemonic : String)
  /-- 30 R101: an opcode not in the map; raised by the fetch. Safe. -/
  | illegalOp
  /-- 30 R101: header bits 31..8 not 0; raised by the fetch. Safe. -/
  | reservedBits
  /-- 30 R101: too few argument words; raised by the fetch. Safe. -/
  | truncatedCommand
  /-- 44 R281: a UCON write to a field the spec gives no meaning. Safe. -/
  | unmodelledField
  /-- 44 R281, R301: a UCON write that sets loopback. Safe. -/
  | loopbackUnmodelled
  /-- 44 R292: any access to UCTS. Safe. -/
  | unmodelledRegister
  /-- 44 R283: a write to the status register. Safe. -/
  | ustatWrite
  /-- 42 R227, R228: no such exception kind. Safe. -/
  | badExceptionKind
  /-- 43 R252 to R256: a buffer handle at or above NUM_CB. Safe. -/
  | badHandle
  /-- 43 R252: capacity 0. Safe. -/
  | cbCapacityZero
  /-- 45 R347, R348: a callback handle not in CALLBACKS. Safe. -/
  | unknownCallback
  /-- 46 R392: a handler handle above 2. Safe. -/
  | unknownIsrHandler
  /-- 46 R391 to R393: an interrupt source at or above NUM_IRQ_SRC. Safe. -/
  | badSource
  /-- 46 R391: a priority level above 1. Safe. -/
  | badLevel
  /-- 46 R391: fast priority. Safe. -/
  | fastSourceUnmodelled
  /-- 70 R451: the parameters break a constraint; raised by the first step. Safe. -/
  | parameterConstraint
  deriving DecidableEq, Repr

/-- RAM and buffer slots: (address, byte) pairs, addresses strictly rising; an unlisted address holds no value. -/
abbrev Mem := List Host.Cell

/-- 10 R23: the GPIO block's registers. -/
structure Gpio where
  dir : Pair Word
  data : Pair Word
  puEn : Pair Word
  puSel : Pair Word
  funcSel : Quad Word
  dataSel : Pair Word
  hystEn : Pair Word
  keep : Pair Word
  deriving DecidableEq, Repr

/-- 10 R25: the control register's fields. -/
structure Ucon where
  txe : Bool
  rxe : Bool
  pen : Bool
  ep : Bool
  st2 : Bool
  tst : Bool
  mrxr : Bool
  mtxr : Bool
  deriving DecidableEq, Repr

/-- 10 R25: the latched error flags of the status register. -/
structure ErrFlags where
  se : Bool
  pe : Bool
  fe : Bool
  toe : Bool
  roe : Bool
  rue : Bool
  deriving DecidableEq, Repr

/-- 10 R26: the driver's state of a UART. -/
inductive UState where
  | uninitialized
  | initialized
  deriving DecidableEq, Repr

/-- 10 R25, R26: one UART, hardware and driver. FIFOs are oldest first. -/
structure Uart where
  ucon : Ucon
  err : ErrFlags
  txfifo : List Byte
  rxfifo : List Byte
  txThr : BitVec 6
  rxThr : BitVec 6
  ubrInc : BitVec 16
  ubrMod : BitVec 16
  ustate : UState
  rxCb : Word
  txCb : Word
  deriving DecidableEq, Repr

/-- 10 R27: a circular buffer. A slot not listed in `storage` holds no value. -/
structure Cb where
  valid : Bool
  cap : Nat
  base : Word
  r : Nat
  w : Nat
  count : Nat
  storage : Mem
  deriving DecidableEq, Repr

/-- 30 R121: the exception kinds. -/
inductive ExcKind where
  | reset
  | undefinedInstruction
  | softwareInterrupt
  | prefetchAbort
  | dataAbort
  | irq
  | fiq
  deriving DecidableEq, Repr

/-- 10 R28: the exception-handler table. -/
structure HandlerTable where
  reset : Word
  undefinedInstruction : Word
  softwareInterrupt : Word
  prefetchAbort : Word
  dataAbort : Word
  irq : Word
  fiq : Word
  deriving DecidableEq, Repr

/-- 10 R28: what the block sees of the CPU: the two mask bits (1 = masked) and the handler table. -/
structure Cpu where
  i : Bool
  f : Bool
  handlers : HandlerTable
  deriving DecidableEq, Repr

/-- 10 R29: an interrupt source's priority. -/
inductive Prio where
  | normal
  | fast
  deriving DecidableEq, Repr

/-- 10 R29: the controller's state of one source; `handler` is `none` or `UART_ISR(i)`. -/
structure ItcEntry where
  enabled : Bool
  prio : Prio
  handler : Option Uid
  deriving DecidableEq, Repr

/-- 60 R424: privilege modes. -/
inductive Mode where
  | privileged
  | unprivileged
  deriving DecidableEq, Repr

/-- 10 R33: the context that is running: the foreground, or the ISR of source `src`. -/
inductive Ctx where
  | fg
  | isr (src : Nat)
  deriving DecidableEq, Repr

/-- 10 R30: the out-of-band last-error value. -/
inductive LastError where
  | none
  | invalidParameter
  deriving DecidableEq, Repr

/-- 45 R350: the direction of a callback. -/
inductive Direction where
  | rx
  | tx
  deriving DecidableEq, Repr

/-- 44 R300: the error flags a line error may latch. -/
structure LineErrors where
  se : Bool
  pe : Bool
  fe : Bool
  deriving DecidableEq, Repr

/-- 10 R32: the events of the history. -/
inductive Event where
  | wireTx (i : Uid) (b : Byte)
  | wireRx (i : Uid) (b : Byte)
  | wireRxLost (i : Uid) (b : Byte)
  | lineError (i : Uid) (flags : LineErrors)
  | irqEnter (src : Nat)
  | irqReturn (src : Nat)
  | callbackInvoked (i : Uid) (d : Direction) (handle : Word)
  | registered (i : Uid) (name : Word)
  | done (ctx : Ctx) (pc : Nat) (opcode : Byte) (ret out : Option Word)
  | fault (k : Fault)
  | refused (r : Refusal)
  deriving DecidableEq, Repr

/-- 45 R341: a mask bit of the control register. -/
inductive MaskBit where
  | mrxr
  | mtxr
  deriving DecidableEq, Repr

/-- 10 R33, R36: one atomic step an operation (or the ISR) still has to take, with the values it holds. A context's
list of frames is its continuation, next step first. What each does is `frame` in Machine/Frames.lean. -/
inductive Frame where
  /-- Completion: `ret`, `out` where given, the `Done` event, and the pc past `1 + n` words (10 R21, R22). -/
  | finish (opcode : Byte) (n : Nat) (ret out : Option Word)
  /-- `RegWrite(r, v)`. -/
  | regWrite (r : Reg) (v : Word)
  /-- 41 R189, R190: read of a function-select register; the write of `(old & ~fm) | fv` follows. -/
  | funcRead (k : Four) (fm fv : Word)
  /-- 41 R189, R190: the write that ends the read-modify-write. -/
  | funcWrite (k : Four) (v : Word)
  /-- 45 R341, step 1 of `set_mask(i, m, b)`. -/
  | maskRead (i : Uid) (m : MaskBit) (b : Bool)
  /-- 45 R342: `cb_init(h, any, cap)`. -/
  | initBuffer (h cap : Nat)
  /-- 45 R342, step 7. -/
  | initPriority (src : Nat)
  | initHandler (src : Nat) (i : Uid)
  | initEnable (src : Nat)
  /-- 45 R342, step 8. -/
  | initCallbacks (i : Uid)
  /-- 45 R342: the registration event and `ustate <- Initialized`. -/
  | initRegister (i : Uid) (name : Word)
  /-- 45 R343: `saved <- get_mask(id, MTXR)`. -/
  | sendByteSave (i : Uid) (b : Byte)
  /-- 45 R343: the test of the drain loop. -/
  | sendByteDrain (i : Uid) (b : Byte) (saved : Bool)
  /-- 45 R343: one evaluation of `wait until RegRead(UTXCON) > 0`. -/
  | waitTx (i : Uid)
  /-- 45 R343, R349: `b <- cb_read(TXB)`; the write of `UDATA` follows. -/
  | popToUdata (i : Uid)
  /-- 45 R344: `saved <- get_mask(id, MRXR)`. -/
  | recvByteSave (i : Uid)
  /-- 45 R344: the test of the receive buffer. -/
  | recvByteTest (i : Uid) (saved : Bool)
  /-- 45 R344: `b <- cb_read(RXB)`. -/
  | recvBytePop (i : Uid) (saved : Bool)
  /-- 45 R344: one evaluation of `wait until RegRead(URXCON) > 0`. -/
  | waitRx (i : Uid)
  /-- 45 R344: `b <- RegRead(UDATA)[7:0]`. -/
  | recvByteData (i : Uid) (saved : Bool)
  /-- 45 R345: `cb_is_full(TXB)` in the loop test. -/
  | sendTest (i : Uid) (buf count n : Word)
  /-- 45 R345: `b <- MemRead(buf + n, 1)`. -/
  | sendLoad (i : Uid) (buf count n : Word)
  /-- 45 R345: `cb_write(TXB, b)`. -/
  | sendPut (i : Uid) (buf count n : Word) (b : Byte)
  /-- 45 R346: `cb_is_empty(RXB)` in the loop test. -/
  | recvTest (i : Uid) (buf count n : Word)
  /-- 45 R346: `b <- cb_read(RXB)`. -/
  | recvPop (i : Uid) (buf count n : Word)
  /-- 45 R346: `MemWrite(buf + n, 1, b)`. -/
  | recvStore (i : Uid) (buf count n : Word) (b : Byte)
  /-- 45 R349: the ISR's status read. -/
  | isrStatus (i : Uid)
  /-- 45 R349: the control read before the receive branch. -/
  | isrRxMask (i : Uid) (st : Word)
  /-- 45 R349: `cb_is_full(RXB)` in the receive loop. -/
  | isrRxTest (i : Uid) (st : Word)
  /-- 45 R349: `RegRead(URXCON) > 0` in the receive loop. -/
  | isrRxLevel (i : Uid) (st : Word)
  /-- 45 R349: `b <- RegRead(UDATA)[7:0]`. -/
  | isrRxData (i : Uid) (st : Word)
  /-- 45 R349: `cb_write(RXB, b)`. -/
  | isrRxPut (i : Uid) (st : Word) (b : Byte)
  /-- 45 R349: `h <- rx_cb[i]`. -/
  | isrRxCall (i : Uid) (st : Word)
  /-- 45 R349: `if cb_is_full(RXB): set_mask(i, MRXR, 1)`. -/
  | isrRxEnd (i : Uid) (st : Word)
  /-- 45 R349: the control read before the transmit branch. -/
  | isrTxMask (i : Uid) (st : Word)
  /-- 45 R349: `cb_is_empty(TXB)` in the transmit loop. -/
  | isrTxTest (i : Uid)
  /-- 45 R349: `RegRead(UTXCON) > 0` in the transmit loop. -/
  | isrTxLevel (i : Uid)
  /-- 45 R349: `h <- tx_cb[i]`. -/
  | isrTxCall (i : Uid)
  /-- 45 R349: `if cb_is_empty(TXB): set_mask(i, MTXR, 1)`. -/
  | isrTxEnd (i : Uid)
  /-- 45 R350: `invoke(i, d, h)`. -/
  | invoke (i : Uid) (d : Direction) (h : Word)
  /-- 45 R350: the callback program of handle `h` is running. -/
  | callback (h : Word)
  /-- 60 R422: the interrupt return. -/
  | isrReturn
  deriving DecidableEq, Repr

/-- 10 R21, R22, R33: a context: pc (a word index), result slots (`none`: no value), and the steps still to take. -/
structure Context where
  pc : Nat
  ret : Option Word
  out : Option Word
  todo : List Frame
  deriving DecidableEq, Repr

/-- 10 R33: what interrupt entry saves. -/
structure Saved where
  cont : Context
  i : Bool
  f : Bool
  deriving DecidableEq, Repr

/-- 45 R340: the pins of a UART. -/
structure UartPins where
  tx : Pin
  rx : Pin
  cts : Pin
  rts : Pin
  deriving DecidableEq, Repr

def UartPins.toList (p : UartPins) : List Pin := [p.tx, p.rx, p.cts, p.rts]

/-- 10 R37, 00 R7: the arguments of the step relation, no state of the machine: no step writes them (log 9).
NUM_CB and NUM_IRQ_SRC are the lengths of `State.cb` and `State.itc`. -/
structure Params where
  program : List Word
  callbacks : List (Word × List Word)
  fgMode : Mode
  coreClockHz : Nat
  uartOversample : Nat
  txFifoDepth : Nat
  rxFifoDepth : Nat
  uartIrqSrc : Pair Nat
  uartPins : Pair UartPins
  dataSelLatch : Bool
  einvalCode : Word
  deriving DecidableEq, Repr

/-- Which agent moves in a step, and the environment's choice where it makes one (10 R20, log 3). -/
inductive Turn where
  /-- The running context takes up to `n + 1` atomic steps (log 5). -/
  | run (n : Nat)
  /-- `CORE` takes an interrupt of source `src`, or raises `NestedInterrupt`. -/
  | core (src : Nat)
  /-- `TXS[i]`. -/
  | txs (i : Uid)
  /-- `RXL[i]` delivers `b`. -/
  | rxl (i : Uid) (b : Byte)
  /-- `LERR[i]` latches `flags`. -/
  | lerr (i : Uid) (flags : LineErrors)
  deriving DecidableEq, Repr

/-- The machine's state. `cur` is the running context; while `ctx` is an ISR, the foreground's is in `saved`. -/
structure State where
  gpio : Gpio
  uart : Pair Uart
  cb : List Cb
  cpu : Cpu
  itc : List ItcEntry
  mem : Mem
  cur : Context
  ctx : Ctx
  saved : Option Saved
  fselPending : Option (Four × Word)
  lastError : LastError
  faults : List Fault
  refusals : List Refusal
  history : List Event
  params : Params
  /-- The model's own: the turns to come (log 3). -/
  sched : List Turn
  /-- The model's own: how many atomic steps beyond the first the running context may take in this step (log 5). -/
  slice : Nat
  /-- The model's own: how many free values have been drawn (log 13). -/
  draws : Nat
  deriving DecidableEq, Repr

/-- 10 R50, R52, R55: the open reset values. -/
structure ResetParams where
  gpio : Gpio
  ubrcnt : Word
  handlers : HandlerTable
  deriving DecidableEq, Repr

def Ucon.reset : Ucon := ⟨false, false, false, false, false, false, false, false⟩

def ErrFlags.clear : ErrFlags := ⟨false, false, false, false, false, false⟩

/-- 10 R51 to R53. -/
def Uart.reset (ubrcnt : Word) : Uart where
  ucon := Ucon.reset
  err := ErrFlags.clear
  txfifo := []
  rxfifo := []
  txThr := 0
  rxThr := 0
  ubrInc := ubrcnt.extractLsb' 16 16
  ubrMod := ubrcnt.extractLsb' 0 16
  ustate := .uninitialized
  rxCb := 0
  txCb := 0

/-- 10 R54: an invalid buffer; the zeros are never read (log 14). -/
def Cb.reset : Cb := ⟨false, 0, 0, 0, 0, 0, []⟩

/-- 10 R56. -/
def ItcEntry.reset : ItcEntry := ⟨false, .normal, none⟩

/-- A context at the start of a program, no operation in progress, no value in its slots (10 R22, R58). -/
def Context.start : Context := ⟨0, none, none, []⟩

/-- 70 R450, R451: the launch state, reset with the parameters, the open reset values, the two table sizes and the RAM
bytes the launch gives. -/
def State.launch (p : Params) (rp : ResetParams) (numCb numIrqSrc : Nat) (ram : Mem) : State where
  gpio := rp.gpio
  uart := ⟨Uart.reset rp.ubrcnt, Uart.reset rp.ubrcnt⟩
  cb := List.replicate numCb Cb.reset
  cpu := ⟨true, true, rp.handlers⟩
  itc := List.replicate numIrqSrc ItcEntry.reset
  mem := ram
  cur := Context.start
  ctx := .fg
  saved := none
  fselPending := none
  lastError := .none
  faults := []
  refusals := []
  history := []
  params := p
  sched := []
  slice := Config.defaultSlice
  draws := 0

/-- The spec's own values of the open parameters (00 R7, PRESUMED by the spec; log 9), no program loaded (log 21). -/
def Params.default : Params where
  program := []
  callbacks := []
  fgMode := .privileged
  coreClockHz := 24000000
  uartOversample := 8
  txFifoDepth := 32
  rxFifoDepth := 32
  uartIrqSrc := ⟨1, 2⟩
  uartPins := ⟨⟨14, 15, 16, 17⟩, ⟨18, 19, 20, 21⟩⟩
  dataSelLatch := true
  einvalCode := 22

/-- DESIGN CHOICE (log 10, 11, 12): zero for every open reset value. -/
def ResetParams.zero : ResetParams where
  gpio := ⟨⟨0, 0⟩, ⟨0, 0⟩, ⟨0, 0⟩, ⟨0, 0⟩, ⟨0, 0, 0, 0⟩, ⟨0, 0⟩, ⟨0, 0⟩, ⟨0, 0⟩⟩
  ubrcnt := 0
  handlers := ⟨0, 0, 0, 0, 0, 0, 0⟩

/-- The machine right after reset, with the parameters of 00 R7, eight buffers and eleven sources (log 9), no program
and no RAM contents. -/
def State.reset : State := State.launch Params.default ResetParams.zero 8 11 []

end Sys2Proof.Machine
end

