-- ==== Sys2Proof/Machine/Ops.lean ====
section
/-! DEFINITION. The named operations over the state: outcomes of a check or an atomic step, memory, free values, the
context's slots and continuation, recording faults and refusals (60 R412, R413), the error return (60 R410), and taking
an interrupt and returning from it (60 R420, R422). -/

namespace Sys2Proof.Machine

/-- What a check or an access answers: a value, the spec's `raise Fault(k)`, or the spec's `refuse(r)` (00 R9). -/
inductive Res (α : Type) where
  | ok (a : α)
  | fault (k : Fault)
  | refused (r : Refusal)
  deriving DecidableEq, Repr

/-- Go on with the value, if there is one. -/
def Res.bind {α β : Type} (x : Res α) (f : α → Res β) : Res β :=
  match x with
  | .ok a => f a
  | .fault k => .fault k
  | .refused r => .refused r

/-- Apply a function to the value, if there is one. -/
def Res.map {α β : Type} (f : α → β) (x : Res α) : Res β :=
  x.bind (fun a => .ok (f a))

/-! ### RAM and buffer slots -/

/-- The byte at an address; `none` where it holds no value. -/
def Mem.get : Mem → Nat → Option Byte
  | [], _ => none
  | (b, v) :: m, a => if a = b then some v else Mem.get m a

/-- Set the byte at an address, keeping the addresses strictly rising. -/
def Mem.set : Mem → Nat → Byte → Mem
  | [], a, v => [(a, v)]
  | (b, u) :: m, a, v =>
    if a < b then (a, v) :: (b, u) :: m
    else if a = b then (a, v) :: m
    else (b, u) :: Mem.set m a v

/-- The canonical form: addresses strictly rising. An unlisted address holds no value, so no listed byte can equal
what an unlisted address reads as. -/
def Mem.wf : Mem → Bool
  | [] => true
  | [_] => true
  | (a, _) :: (b, v) :: m => a < b && Mem.wf ((b, v) :: m)

/-- 20 R86: the address lies in RAM. -/
def inRam (a : Nat) : Bool := Config.ramBase ≤ a && a < Config.ramBase + Config.ramSize

/-- 20 R86, R82: `MemRead(a, 1)`. Outside RAM the agent is stuck; a byte with no value faults. -/
def memRead (s : State) (a : Word) : Res Byte :=
  if inRam a.toNat then
    match s.mem.get a.toNat with
    | some b => .ok b
    | none => .fault .unwrittenMemory
  else .fault .noStep

/-- 20 R86: `MemWrite(a, 1, b)`. -/
def memWrite (s : State) (a : Word) (b : Byte) : Res State :=
  if inRam a.toNat then .ok { s with mem := s.mem.set a.toNat b } else .fault .noStep

/-! ### Free values -/

/-- 00 R9: the next `draw u32`. -/
def State.drawn (s : State) : Word := Config.freeWord s.draws

/-- The state after one draw. -/
def State.afterDraw (s : State) : State := { s with draws := s.draws + 1 }

/-! ### Handlers, UARTs, buffers, sources -/

def HandlerTable.get (t : HandlerTable) : ExcKind → Word
  | .reset => t.reset
  | .undefinedInstruction => t.undefinedInstruction
  | .softwareInterrupt => t.softwareInterrupt
  | .prefetchAbort => t.prefetchAbort
  | .dataAbort => t.dataAbort
  | .irq => t.irq
  | .fiq => t.fiq

def HandlerTable.set (t : HandlerTable) (k : ExcKind) (v : Word) : HandlerTable :=
  match k with
  | .reset => { t with reset := v }
  | .undefinedInstruction => { t with undefinedInstruction := v }
  | .softwareInterrupt => { t with softwareInterrupt := v }
  | .prefetchAbort => { t with prefetchAbort := v }
  | .dataAbort => { t with dataAbort := v }
  | .irq => { t with irq := v }
  | .fiq => { t with fiq := v }

/-- The state with UART `i` replaced. -/
def State.setUart (s : State) (i : Uid) (u : Uart) : State := { s with uart := s.uart.set i u }

/-- The state with buffer `h` replaced. -/
def State.setCb (s : State) (h : Nat) (b : Cb) : State := { s with cb := s.cb.set h b }

/-- The state with the controller's entry of source `src` replaced. -/
def State.setItc (s : State) (src : Nat) (e : ItcEntry) : State := { s with itc := s.itc.set src e }

/-- Append an event to the history (00 R9 `emit`, 10 R32). -/
def State.emit (s : State) (e : Event) : State := { s with history := s.history ++ [e] }

/-- 45 R340: the receive buffer's handle. -/
def rxBuffer (i : Uid) : Nat := 2 * i.toNat

/-- 45 R340: the transmit buffer's handle. -/
def txBuffer (i : Uid) : Nat := 2 * i.toNat + 1

/-- 60 R424: the running context's mode. -/
def State.mode (s : State) : Mode :=
  match s.ctx with
  | .fg => s.params.fgMode
  | .isr _ => .privileged

/-- 20 R95, 46 R390: go on only in privileged mode. -/
def privileged {α : Type} (s : State) (x : Res α) : Res α :=
  match s.mode with
  | .privileged => x
  | .unprivileged => .fault .unprivilegedMmio

/-! ### The running context -/

/-- `ret <- v` (00 R9, 10 R22). -/
def State.setRet (s : State) (v : Word) : State := { s with cur := { s.cur with ret := some v } }

/-- The state with the steps still to take replaced. -/
def State.setTodo (s : State) (fs : List Frame) : State := { s with cur := { s.cur with todo := fs } }

/-- The state with steps put before those still to take. -/
def State.push (s : State) (fs : List Frame) : State := s.setTodo (fs ++ s.cur.todo)

/-- No operation is in progress in the running context: the foreground has no step left to take, or the ISR is at a
command boundary of a callback program (10 R33, 45 R350). -/
def State.atStart (s : State) : Bool :=
  match s.cur.todo with
  | [] => true
  | .callback _ :: _ => true
  | _ => false

/-- Completion of an operation (10 R21, R22): the slots named, the `Done` event with the slots' values, and the pc past
the command's `1 + n` words. -/
def State.complete (s : State) (opcode : Byte) (n : Nat) (ret out : Option Word) : State :=
  let ret' := ret.orElse (fun _ => s.cur.ret)
  let out' := out.orElse (fun _ => s.cur.out)
  { s with
    cur := { s.cur with pc := s.cur.pc + (1 + n), ret := ret', out := out' }
    history := s.history ++ [.done s.ctx s.cur.pc opcode ret' out'] }

/-- 60 R410: the step of `ERR()`: the last error, the sentinel in `ret`, a draw in `out`. -/
def State.errReturn (s : State) : State :=
  { s with
    lastError := .invalidParameter
    cur := { s.cur with ret := some Config.errSentinel, out := some s.drawn }
    draws := s.draws + 1 }

/-- 60 R410: the numeric code a program would read for the last error. That of InvalidParameter is the open parameter
EINVAL_CODE (log 29). DESIGN CHOICE (log 34): the spec gives `last_error = None` no code, and the model answers 0. No
step reads the code. -/
def State.errorCode (s : State) : Word :=
  match s.lastError with
  | .none => 0
  | .invalidParameter => s.params.einvalCode

/-! ### Faults and refusals -/

/-- 60 R412: `raise Fault(k)`; `faults` is a set. -/
def State.recordFault (s : State) (k : Fault) : State :=
  { s with
    faults := if k ∈ s.faults then s.faults else s.faults ++ [k]
    history := s.history ++ [.fault k] }

/-- 60 R413: `refuse(r)`; `refusals` is a set. -/
def State.recordRefusal (s : State) (r : Refusal) : State :=
  { s with
    refusals := if r ∈ s.refusals then s.refusals else s.refusals ++ [r]
    history := s.history ++ [.refused r] }

/-- 60 R412, R413: after a fault or a refusal no `FG`, `CORE` or `ISR` step is enabled. -/
def State.stopped (s : State) : Bool := !(s.faults.isEmpty && s.refusals.isEmpty)

/-- What a step of a stopped machine's program or core answers (log 6). -/
def State.stopOutcome (s : State) : Host.Outcome State Fault Refusal :=
  match s.faults, s.refusals with
  | k :: _, _ => .fault k
  | [], r :: _ => .refused r
  | [], [] => .fault .runEnded

/-! ### Taking an interrupt and returning from it -/

/-- 60 R420: interrupt entry for source `src`, whose handler is `UART_ISR(i)`. -/
def State.takeInterrupt (s : State) (src : Nat) (i : Uid) : State :=
  { s with
    saved := some ⟨s.cur, s.cpu.i, s.cpu.f⟩
    cpu := { s.cpu with i := true }
    ctx := .isr src
    cur := { Context.start with todo := [.isrStatus i] }
    history := s.history ++ [.irqEnter src] }

/-- 60 R422: interrupt return. With no ISR running there is nothing to return from. -/
def State.interruptReturn (s : State) : State :=
  match s.ctx, s.saved with
  | .isr src, some sv =>
    { s with
      cpu := { s.cpu with i := sv.i, f := sv.f }
      ctx := .fg
      cur := sv.cont
      saved := none
      history := s.history ++ [.irqReturn src] }
  | _, _ => s

end Sys2Proof.Machine
end

