-- ==== Sys2Proof/Machine/Operands.lean ====
section
/-! DEFINITION. Argument words (30 R103): each kind's legal values. `none` is "invalid" (an error return) or, for the
kinds that R103 refuses, the refusal the caller names. -/

namespace Sys2Proof.Machine

/-- A two-valued argument: `port`, `id`. -/
def twoOf (w : Word) : Option Two :=
  if w.toNat = 0 then some .zero else if w.toNat = 1 then some .one else none

/-- `port`, 0 or 1. -/
def portOf (w : Word) : Option Port := twoOf w

/-- `id`, 0 or 1. -/
def uidOf (w : Word) : Option Uid := twoOf w

/-- `pin`, 0 to 63. -/
def pinOf (w : Word) : Option Pin := if h : w.toNat < 64 then some ⟨w.toNat, h⟩ else none

/-- `dir`: 0 input (`false`), 1 output (`true`) (30 R115). -/
def dirOf (w : Word) : Option Bool :=
  if w.toNat = 0 then some false else if w.toNat = 1 then some true else none

/-- `func`, 0 to 3 (30 R116). -/
def funcOf (w : Word) : Option (BitVec 2) := if w.toNat < 4 then some (w.setWidth 2) else none

/-- `kind`, 30 R121. -/
def kindOf (w : Word) : Option ExcKind :=
  match w.toNat with
  | 0 => some .reset
  | 1 => some .undefinedInstruction
  | 2 => some .softwareInterrupt
  | 3 => some .prefetchAbort
  | 4 => some .dataAbort
  | 6 => some .irq
  | 7 => some .fiq
  | _ => none

/-- `handler` of `itc.set_handler`: 0 none, 1 `UART_ISR(0)`, 2 `UART_ISR(1)`. -/
def isrHandlerOf (w : Word) : Option (Option Uid) :=
  match w.toNat with
  | 0 => some none
  | 1 => some (some .zero)
  | 2 => some (some .one)
  | _ => none

/-- `fn`: 0, or a key of CALLBACKS. -/
def knownCallback (s : State) (w : Word) : Bool :=
  w == 0 || s.params.callbacks.any (fun c => c.1 == w)

/-- 10 R24: the port of a pin. -/
def Pin.port (p : Pin) : Port := if p.val < 32 then .zero else .one

/-- 10 R24: the bit of a pin in its port's registers. -/
def Pin.bit (p : Pin) : Nat := p.val % 32

/-- 30 R113: the function-select register of a pin. -/
def Pin.funcReg (p : Pin) : Four :=
  if p.val < 16 then .zero else if p.val < 32 then .one else if p.val < 48 then .two else .three

/-- 30 R113: the slot of a pin in its function-select register. -/
def Pin.slot (p : Pin) : Nat := p.val % 16

/-- `1 << (pin mod 32)`. -/
def Pin.mask (p : Pin) : Word := 1#32 <<< Pin.bit p

/-- 41 R189: the function-select register of a half of a port (`2 * port + half`). -/
def halfReg : Port → Bool → Four
  | .zero, false => .zero
  | .zero, true => .one
  | .one, false => .two
  | .one, true => .three

end Sys2Proof.Machine
end

