-- ==== Sys2Proof/Machine/Flags.lean ====
section
/-! DEFINITION. The derived flags and status words (10 R35): UART ready flags and interrupt request, buffer full and
empty, delivery of interrupts, the status and control words, the critical-section mask word. -/

namespace Sys2Proof.Machine

/-- 44 R288: free slots of the transmit FIFO. -/
def txFree (s : State) (i : Uid) : Nat := s.params.txFifoDepth - (s.uart.get i).txfifo.length

/-- 44 R293. -/
def rxrdy (s : State) (i : Uid) : Bool := (s.uart.get i).rxThr.toNat ≤ (s.uart.get i).rxfifo.length

/-- 44 R294. -/
def txrdy (s : State) (i : Uid) : Bool := (s.uart.get i).txThr.toNat ≤ txFree s i

/-- 44 R295: the interrupt request of UART `i`, a level. -/
def irqReq (s : State) (i : Uid) : Bool :=
  (rxrdy s i && !(s.uart.get i).ucon.mrxr) || (txrdy s i && !(s.uart.get i).ucon.mtxr)

/-- 46 R394: the request line of a source. -/
def req (s : State) (src : Nat) : Bool :=
  Two.all.any (fun i => s.params.uartIrqSrc.get i == src && irqReq s i)

/-- 46 R395: the handler a deliverable source runs; `none` where the source is not deliverable. -/
def delivers (s : State) (src : Nat) : Option Uid :=
  match s.itc[src]? with
  | some e => if e.enabled && e.prio == .normal && req s src then e.handler else none
  | none => none

/-- 46 R395. -/
def deliverable (s : State) (src : Nat) : Bool := (delivers s src).isSome

/-- Some source is deliverable. -/
def anyDeliverable (s : State) : Bool := (List.range s.itc.length).any (deliverable s)

/-- 43 R251. -/
def Cb.empty (b : Cb) : Bool := b.count == 0

/-- 43 R251. -/
def Cb.full (b : Cb) : Bool := b.count == b.cap

/-- 30 R108, 44 R280: the control register as a word. -/
def Ucon.word (u : Ucon) : Word :=
  bitAt 15 u.tst ||| bitAt 14 u.mtxr ||| bitAt 13 u.mrxr ||| bitAt 4 u.st2 ||| bitAt 3 u.ep ||| bitAt 2 u.pen
    ||| bitAt 1 u.rxe ||| bitAt 0 u.txe

/-- 44 R281: the fields a control write stores; `tst` stays 0. -/
def Ucon.ofWord (v : Word) : Ucon where
  txe := bitOf v 0
  rxe := bitOf v 1
  pen := bitOf v 2
  ep := bitOf v 3
  st2 := bitOf v 4
  tst := false
  mrxr := bitOf v 13
  mtxr := bitOf v 14

/-- 30 R109, 44 R282: the status word. -/
def statusWord (s : State) (i : Uid) : Word :=
  let e := (s.uart.get i).err
  bitAt 7 (txrdy s i) ||| bitAt 6 (rxrdy s i) ||| bitAt 5 e.rue ||| bitAt 4 e.roe ||| bitAt 3 e.toe ||| bitAt 2 e.fe
    ||| bitAt 1 e.pe ||| bitAt 0 e.se

/-- 42 R220, 30 R122: `maskword(i, f)`. -/
def maskword (i f : Bool) : Word := bitAt 7 i ||| bitAt 6 f

/-- 30 R108: the position of a mask bit in the control register. -/
def MaskBit.position : MaskBit → Nat
  | .mrxr => 13
  | .mtxr => 14

/-- 44 R297: the divisor of a baud rate, by the exact product and truncating division. The launch check of 70 R451 makes
the shifted clock at least 1. -/
def baudDivisor (coreClockHz : Nat) (baud : Word) : Nat :=
  baud.toNat * Config.baudMod / (coreClockHz >>> Config.baudClockShift)

/-- 44 R297: `baud_reg(baud)`. -/
def baudReg (coreClockHz : Nat) (baud : Word) : Res Word :=
  if 2 ^ 32 ≤ baud.toNat * Config.baudMod then .fault .baudOverflow
  else if 0xFFFF < baudDivisor coreClockHz baud then .fault .baudDivisorRange
  else .ok (BitVec.ofNat 32 (baudDivisor coreClockHz baud) <<< 16 ||| BitVec.ofNat 32 Config.baudMod)

/-- 10 R24: the function code of a pin. -/
def funcOfPin (g : Gpio) (p : Pin) : BitVec 2 := slotOf (g.funcSel.get (Pin.funcReg p)) (Pin.slot p)

/-- 10 R24: the pin is an output. -/
def isOutput (g : Gpio) (p : Pin) : Bool := bitOf (g.dir.get (Pin.port p)) (Pin.bit p)

/-- 10 R24: the pin's output latch. -/
def latch (g : Gpio) (p : Pin) : Bool := bitOf (g.data.get (Pin.port p)) (Pin.bit p)

/-- 30 R114: the pin of bit `b` of port `n`. -/
def pinAt (n : Port) (b : Nat) : Pin := Fin.ofNat 64 (32 * n.toNat + b)

end Sys2Proof.Machine
end

