-- ==== Sys2Proof/Machine/Agents.lean ====
section
/-! DEFINITION. The agents that are not the program: the line agents (44 R298 to R300), the core (60 R420, R423), the
choice of the agent that moves when the schedule does not say (log 4), and the launch check (70 R451). -/

namespace Sys2Proof.Machine

/-- 44 R298: `TXS[i]` is enabled. -/
def txsEnabled (s : State) (i : Uid) : Bool := (s.uart.get i).ucon.txe && !(s.uart.get i).txfifo.isEmpty

/-- 44 R298: the step of `TXS[i]`; not enabled, nothing moves (log 26). -/
def txsStep (s : State) (i : Uid) : State :=
  match (s.uart.get i).txfifo with
  | [] => s
  | b :: rest =>
    if (s.uart.get i).ucon.txe then
      (s.setUart i { s.uart.get i with txfifo := rest }).emit (.wireTx i b)
    else s

/-- 44 R299: the step of `RXL[i]` with byte `b`; not enabled, nothing moves. -/
def rxlStep (s : State) (i : Uid) (b : Byte) : State :=
  let u := s.uart.get i
  if u.ucon.rxe then
    if u.rxfifo.length < s.params.rxFifoDepth then
      (s.setUart i { u with rxfifo := u.rxfifo ++ [b] }).emit (.wireRx i b)
    else
      (s.setUart i { u with err := { u.err with roe := true } }).emit (.wireRxLost i b)
  else s

/-- 44 R300: the step of `LERR[i]` with the flags chosen; with no flag, or not enabled, nothing moves. -/
def lerrStep (s : State) (i : Uid) (f : LineErrors) : State :=
  let u := s.uart.get i
  if u.ucon.rxe && (f.se || f.pe || f.fe) then
    (s.setUart i { u with
      err := { u.err with se := u.err.se || f.se, pe := u.err.pe || f.pe, fe := u.err.fe || f.fe } }).emit
      (.lineError i f)
  else s

/-- 60 R420, R423: a `CORE` step is enabled. -/
def coreEnabled (s : State) : Bool := !s.cpu.i && anyDeliverable s

/-- 60 R420, R423: the step of `CORE` for source `src`: interrupt entry from the foreground, the fault
`NestedInterrupt` from an ISR; not enabled, nothing moves. -/
def coreStep (s : State) (src : Nat) : State :=
  match s.ctx with
  | .fg =>
    if s.cpu.i then s
    else match delivers s src with
      | some i => s.takeInterrupt src i
      | none => s
  | .isr _ => if coreEnabled s then s.recordFault .nestedInterrupt else s

/-- DESIGN CHOICE (log 4): who moves when the schedule is empty. A serializer that has a byte first, then the core
where an interrupt is deliverable, then the running context. -/
def defaultTurn (s : State) : Turn :=
  if txsEnabled s .zero then .txs .zero
  else if txsEnabled s .one then .txs .one
  else if coreEnabled s && !s.stopped then
    .core (((List.range s.itc.length).find? (deliverable s)).getD 0)
  else .run Config.defaultSlice

/-- 70 R451: the constraints on the parameters (00 R7, 44 R304, 46 R394; the windows are fixed). DESIGN CHOICE: the list
is R451's own. So UART_OVERSAMPLE, which 00 R7 gives as "8 or 16", is not checked, and no value of it is refused (log
33); nor are the keys of CALLBACKS, which 00 R7 calls non-zero, so a table with a key 0 is not refused, and its entry is
never used (log 35). -/
def launchOk (s : State) : Bool :=
  let p := s.params
  1 ≤ p.coreClockHz >>> Config.baudClockShift
    && 4 ≤ s.cb.length
    && p.uartIrqSrc.at0 < s.itc.length && p.uartIrqSrc.at1 < s.itc.length
    && p.uartIrqSrc.at0 != p.uartIrqSrc.at1
    && 31 ≤ p.txFifoDepth && p.txFifoDepth ≤ 63
    && 1 ≤ p.rxFifoDepth && p.rxFifoDepth ≤ 63
    && p.uartPins.at0.toList.all (fun q => !p.uartPins.at1.toList.contains q)

end Sys2Proof.Machine
end

