-- ==== Sys2Proof/Machine/Buffer.lean ====
section
/-! DEFINITION. The circular-buffer primitives (43 R250 to R260), each one atomic step after its checks, and the
discipline check (43 R257). -/

namespace Sys2Proof.Machine

/-- 43 R257: the ISR of UART `i` can run. -/
def isrLive (s : State) (i : Uid) : Bool :=
  (s.uart.get i).ustate == .initialized && !s.cpu.i
    && (match s.itc[s.params.uartIrqSrc.get i]? with
        | some e => e.enabled && e.prio == .normal && e.handler == some i
        | none => false)

/-- 43 R257: the UART a buffer handle belongs to, and whether it is the receive buffer. -/
def uartOfBuffer (h : Nat) : Option (Uid × Direction) :=
  match h with
  | 0 => some (.zero, .rx)
  | 1 => some (.zero, .tx)
  | 2 => some (.one, .rx)
  | 3 => some (.one, .tx)
  | _ => none

/-- 43 R257: the direction's interrupt is masked at the UART. -/
def guarded (s : State) : Uid × Direction → Bool
  | (i, .rx) => (s.uart.get i).ucon.mrxr
  | (i, .tx) => (s.uart.get i).ucon.mtxr

/-- 43 R257: the foreground touches a shared UART buffer with its interrupt unmasked. -/
def undisciplined (s : State) (h : Nat) : Bool :=
  match uartOfBuffer h with
  | some (i, d) => s.ctx == .fg && isrLive s i && !guarded s (i, d)
  | none => false

/-- 43 R260: the checks common to the four primitives on an initialised buffer, in order. -/
def bufferAt (s : State) (h : Nat) : Res Cb :=
  match s.cb[h]? with
  | none => .refused .badHandle
  | some b =>
    if !b.valid then .fault .cbUninitialized
    else if undisciplined s h then .fault .disciplineViolation
    else .ok b

/-- 43 R252: `cb_init(h, storage, cap)`. -/
def cbInit (s : State) (h : Nat) (storage : Word) (cap : Nat) : Res State :=
  match s.cb[h]? with
  | none => .refused .badHandle
  | some _ =>
    if cap = 0 then .refused .cbCapacityZero
    else if undisciplined s h then .fault .disciplineViolation
    else .ok (s.setCb h ⟨true, cap, storage, 0, 0, 0, []⟩)

/-- 43 R253: `cb_is_empty(h)`. -/
def cbIsEmpty (s : State) (h : Nat) : Res Bool := (bufferAt s h).map Cb.empty

/-- 43 R254: `cb_is_full(h)`. -/
def cbIsFull (s : State) (h : Nat) : Res Bool := (bufferAt s h).map Cb.full

/-- 43 R255: the buffer after a byte is written. -/
def Cb.put (b : Cb) (v : Byte) : Cb :=
  { b with storage := b.storage.set b.w v, w := (b.w + 1) % b.cap, count := b.count + 1 }

/-- 43 R256: the buffer after a byte is read. -/
def Cb.drop (b : Cb) : Cb := { b with r := (b.r + 1) % b.cap, count := b.count - 1 }

/-- 43 R256: the byte a read gives. A slot with no value is read in no run (43 R250); there the byte is free (log 15). -/
def Cb.front (b : Cb) : Byte := (b.storage.get b.r).getD (Config.freeByte b.r)

/-- 43 R255: `cb_write(h, b)`. -/
def cbWrite (s : State) (h : Nat) (v : Byte) : Res State :=
  (bufferAt s h).bind (fun b => if b.full then .fault .cbWriteFull else .ok (s.setCb h (b.put v)))

/-- 43 R256: `cb_read(h)`. -/
def cbRead (s : State) (h : Nat) : Res (Byte × State) :=
  (bufferAt s h).bind (fun b => if b.empty then .fault .cbReadEmpty else .ok (b.front, s.setCb h b.drop))

end Sys2Proof.Machine
end

