-- ==== Sys2Proof/Machine/Controller.lean ====
section
/-! DEFINITION. The interrupt controller's three calls (46 R391 to R393), each one atomic step after its checks. -/

namespace Sys2Proof.Machine

/-- 46 R390 to R393: the controller's entry of a source, from privileged mode. -/
def withSource (s : State) (src : Nat) (f : ItcEntry → ItcEntry) : Res State :=
  match s.itc[src]? with
  | none => .refused .badSource
  | some e => privileged s (.ok (s.setItc src (f e)))

/-- 46 R391: `set_priority(source, level)`. -/
def itcSetPriority (s : State) (src level : Nat) : Res State :=
  match s.itc[src]? with
  | none => .refused .badSource
  | some _ =>
    if 1 < level then .refused .badLevel
    else if level = 1 then .refused .fastSourceUnmodelled
    else withSource s src (fun e => { e with prio := .normal })

/-- 46 R392: `set_handler(source, handler)`, for a known handler. -/
def itcSetHandler (s : State) (src : Nat) (handler : Option Uid) : Res State :=
  withSource s src (fun e => { e with handler := handler })

/-- 46 R393: `enable_interrupt(source)`. -/
def itcEnableInterrupt (s : State) (src : Nat) : Res State :=
  withSource s src (fun e => { e with enabled := true })

end Sys2Proof.Machine
end

