-- ==== Sys2Proof/Machine/Registers.lean ====
section
/-! DEFINITION. What reading and writing each register does (40 R142 to R166, 44 R280 to R292), and the register access
with its privilege check, one atomic step (20 R87, R95). -/

namespace Sys2Proof.Machine

/-- 40 R164: the level of a pad, where `drawn` is the word of free bits of this read. -/
def padLevel (g : Gpio) (n : Port) (drawn : Word) (b : Nat) : Bool :=
  if isOutput g (pinAt n b) && funcOfPin g (pinAt n b) == 0 then latch g (pinAt n b) else bitOf drawn b

/-- 40 R144: the value of a `GPIO_DATA<n>` read. -/
def dataValue (g : Gpio) (latchSel : Bool) (n : Port) (drawn : Word) : Word :=
  wordOfBits (fun b =>
    if bitOf (g.dataSel.get n) b == latchSel then bitOf (g.data.get n) b else padLevel g n drawn b)

/-- 40 R156, R158, R160, R162: the read of a write port answers a free value and changes nothing. -/
def freeRead (s : State) : Res (Word × State) := .ok (s.drawn, s.afterDraw)

/-- 44 R284: the read of `UDATA<i>`. -/
def udataRead (s : State) (i : Uid) : Res (Word × State) :=
  match (s.uart.get i).rxfifo with
  | [] => .fault .udataReadEmpty
  | b :: rest => .ok (zextByte b, s.setUart i { s.uart.get i with rxfifo := rest })

/-- 44 R285: the write of `UDATA<i>`. -/
def udataWrite (s : State) (i : Uid) (v : Word) : Res State :=
  if (s.uart.get i).txfifo.length < s.params.txFifoDepth then
    .ok (s.setUart i { s.uart.get i with txfifo := (s.uart.get i).txfifo ++ [lowByte v] })
  else .fault .udataWriteFull

/-- 44 R281: the control-register bits that must be written 0. -/
def uconMustBeZero : Word := 0xFFFF1FE0#32

/-- 44 R281: the write of `UCON<i>`. -/
def uconWrite (s : State) (i : Uid) (v : Word) : Res State :=
  if v &&& uconMustBeZero ≠ 0 then .refused .unmodelledField
  else if bitOf v 15 then .refused .loopbackUnmodelled
  else .ok (s.setUart i { s.uart.get i with ucon := Ucon.ofWord v })

/-- 40 R147: another context writes a function-select register inside the foreground's read-modify-write of it. -/
def funcSelRace (s : State) (k : Four) : Bool :=
  match s.fselPending with
  | some (k', _) => k' == k && s.ctx != .fg
  | none => false

/-- 40 R147: the write of `v` gives some pin of register `k` to a UART whose transmitter or receiver is disabled. -/
def muxBeforeEnable (s : State) (k : Four) (v : Word) : Bool :=
  Two.all.any (fun i =>
    (s.params.uartPins.get i).toList.any (fun p =>
      Pin.funcReg p == k
        && slotOf (s.gpio.funcSel.get k) (Pin.slot p) != Config.uartPinFunc
        && slotOf v (Pin.slot p) == Config.uartPinFunc)
      && !((s.uart.get i).ucon.txe && (s.uart.get i).ucon.rxe))

/-- 40 R147: the write of `GPIO_FUNC_SEL<k>`. -/
def funcSelWrite (s : State) (k : Four) (v : Word) : Res State :=
  if funcSelRace s k then .fault .funcSelRace
  else if muxBeforeEnable s k v then .fault .pinMuxBeforeEnable
  else .ok { s with gpio := { s.gpio with funcSel := s.gpio.funcSel.set k v } }

/-- The value each register's read rule gives, with the read's side effects. -/
def readRule (s : State) : Reg → Res (Word × State)
  | .padDir n => .ok (s.gpio.dir.get n, s)
  | .data n => .ok (dataValue s.gpio s.params.dataSelLatch n s.drawn, s.afterDraw)
  | .puEn n => .ok (s.gpio.puEn.get n, s)
  | .funcSel k => .ok (s.gpio.funcSel.get k, s)
  | .dataSel n => .ok (s.gpio.dataSel.get n, s)
  | .puSel n => .ok (s.gpio.puSel.get n, s)
  | .hystEn n => .ok (s.gpio.hystEn.get n, s)
  | .keep n => .ok (s.gpio.keep.get n, s)
  | .dataSet _ => freeRead s
  | .dataReset _ => freeRead s
  | .dirSet _ => freeRead s
  | .dirReset _ => freeRead s
  | .ucon i => .ok ((s.uart.get i).ucon.word, s)
  | .ustat i => .ok (statusWord s i, s.setUart i { s.uart.get i with err := ErrFlags.clear })
  | .udata i => udataRead s i
  | .urxcon i => .ok (BitVec.ofNat 32 (s.uart.get i).rxfifo.length, s)
  | .utxcon i => .ok (BitVec.ofNat 32 (txFree s i), s)
  | .ucts _ => .refused .unmodelledRegister
  | .ubrcnt i => .ok ((s.uart.get i).ubrInc.setWidth 32 <<< 16 ||| (s.uart.get i).ubrMod.setWidth 32, s)

/-- What each register's write rule does. -/
def writeRule (s : State) (v : Word) : Reg → Res State
  | .padDir n => .ok { s with gpio := { s.gpio with dir := s.gpio.dir.set n v } }
  | .data n => .ok { s with gpio := { s.gpio with data := s.gpio.data.set n v } }
  | .puEn n => .ok { s with gpio := { s.gpio with puEn := s.gpio.puEn.set n v } }
  | .funcSel k => funcSelWrite s k v
  | .dataSel n => .ok { s with gpio := { s.gpio with dataSel := s.gpio.dataSel.set n v } }
  | .puSel n => .ok { s with gpio := { s.gpio with puSel := s.gpio.puSel.set n v } }
  | .hystEn n => .ok { s with gpio := { s.gpio with hystEn := s.gpio.hystEn.set n v } }
  | .keep n => .ok { s with gpio := { s.gpio with keep := s.gpio.keep.set n v } }
  | .dataSet n => .ok { s with gpio := { s.gpio with data := s.gpio.data.set n (s.gpio.data.get n ||| v) } }
  | .dataReset n => .ok { s with gpio := { s.gpio with data := s.gpio.data.set n (s.gpio.data.get n &&& ~~~v) } }
  | .dirSet n => .ok { s with gpio := { s.gpio with dir := s.gpio.dir.set n (s.gpio.dir.get n ||| v) } }
  | .dirReset n => .ok { s with gpio := { s.gpio with dir := s.gpio.dir.set n (s.gpio.dir.get n &&& ~~~v) } }
  | .ucon i => uconWrite s i v
  | .ustat _ => .refused .ustatWrite
  | .udata i => udataWrite s i v
  | .urxcon i => .ok (s.setUart i { s.uart.get i with rxThr := v.extractLsb' 0 6 })
  | .utxcon i => .ok (s.setUart i { s.uart.get i with txThr := v.extractLsb' 0 6 })
  | .ucts _ => .refused .unmodelledRegister
  | .ubrcnt i =>
    .ok (s.setUart i { s.uart.get i with ubrInc := v.extractLsb' 16 16, ubrMod := v.extractLsb' 0 16 })

/-- `RegRead(r)` (00 R9): the privilege check and the read rule, one atomic step. -/
def regRead (s : State) (r : Reg) : Res (Word × State) := privileged s (readRule s r)

/-- `RegWrite(r, v)` (00 R9). -/
def regWrite (s : State) (r : Reg) (v : Word) : Res State := privileged s (writeRule s v r)

/-- 40 R140, R141: the checks of a bus access, in their order, and the register the address names. -/
def busTarget (s : State) (a : Word) : Res Reg :=
  if !inWindow a then .fault .noStep
  else if a.toNat % 4 ≠ 0 then .fault .badAccessWidth
  else privileged s (match regAt a with
    | some r => .ok r
    | none => .fault .unmappedRegister)

end Sys2Proof.Machine
end

