-- ==== Sys2Proof/Machine/Frames.lean ====
section
/-! DEFINITION. Running an operation by atomic steps (00 R9, 10 R20): what each frame does, how the running context
takes steps until its slice is spent, and the shape every command's meaning has. -/

namespace Sys2Proof.Machine

/-- What one atomic step of the running context answers. -/
inductive Micro where
  /-- The step is done and the context may go on. -/
  | go (s : State)
  /-- The step is done and the context gives way: the operation is complete, a wait's test failed (log 19), a callback
  starts, or the ISR has returned. -/
  | rest (s : State)
  /-- The step raises a fault. -/
  | fault (k : Fault)
  /-- The step is refused. -/
  | refused (r : Refusal)

/-- The step of a check or an access that gives the next state. -/
def Micro.ofRes : Res State → Micro
  | .ok s => .go s
  | .fault k => .fault k
  | .refused r => .refused r

/-- 45 R345: the loop head of `uart.send` with `n` bytes enqueued: the test, or the end of the operation. -/
def sendNext (i : Uid) (buf count n : Word) (going : Bool) : List Frame :=
  if going then [.sendTest i buf count n] else [.maskRead i .mtxr false, .finish 0x33 3 (some n) none]

/-- 45 R346: the loop head of `uart.receive` with `n` bytes dequeued: the test, or the end of the operation. -/
def recvNext (i : Uid) (buf count n : Word) (going : Bool) : List Frame :=
  if going then [.recvTest i buf count n] else [.maskRead i .mrxr false, .finish 0x34 3 (some n) none]

/-- 45 R344: the end of `uart.receive_byte` with byte `b`. -/
def recvByteEnd (i : Uid) (saved : Bool) (b : Byte) : List Frame :=
  [.maskRead i .mrxr saved, .finish 0x32 1 (some (zextByte b)) none]

/-- 45 R349: the callback to invoke, if one is set. -/
def callFrames (i : Uid) (d : Direction) (h : Word) : List Frame := if h = 0 then [] else [.invoke i d h]

/-- 41 R189, R190: the foreground records that it has read a function-select register. -/
def State.notePending (s : State) (k : Four) (old : Word) : State :=
  if s.ctx = .fg then { s with fselPending := some (k, old) } else s

/-- 41 R189, R190: the foreground has written the register back. -/
def State.clearPending (s : State) : State :=
  if s.ctx = .fg then { s with fselPending := none } else s

/-- The atomic step of a frame, in the state whose continuation is what follows the frame. -/
def frame (f : Frame) (s : State) : Micro :=
  match f with
  | .finish opcode n ret out => .rest (s.complete opcode n ret out)
  | .regWrite r v => .ofRes (regWrite s r v)
  | .funcRead k fm fv =>
    .ofRes ((regRead s (.funcSel k)).map (fun x =>
      (x.2.notePending k x.1).push [.funcWrite k ((x.1 &&& ~~~fm) ||| fv)]))
  | .funcWrite k v => .ofRes ((regWrite s (.funcSel k) v).map State.clearPending)
  | .maskRead i m b =>
    .ofRes ((regRead s (.ucon i)).map (fun x => x.2.push [.regWrite (.ucon i) (setBit x.1 m.position b)]))
  | .initBuffer h cap => .ofRes ((cbInit s h s.drawn cap).map State.afterDraw)
  | .initPriority src => .ofRes (itcSetPriority s src 0)
  | .initHandler src i => .ofRes (itcSetHandler s src (some i))
  | .initEnable src => .ofRes (itcEnableInterrupt s src)
  | .initCallbacks i => .go (s.setUart i { s.uart.get i with rxCb := 0, txCb := 0 })
  | .initRegister i name =>
    .go ((s.emit (.registered i name)).setUart i { s.uart.get i with ustate := .initialized })
  | .sendByteSave i b =>
    .ofRes ((regRead s (.ucon i)).map (fun x =>
      x.2.push [.maskRead i .mtxr true, .sendByteDrain i b (bitOf x.1 MaskBit.mtxr.position)]))
  | .sendByteDrain i b saved =>
    .ofRes ((cbIsEmpty s (txBuffer i)).map (fun e =>
      s.push (if e then
          [.waitTx i, .regWrite (.udata i) (zextByte b), .maskRead i .mtxr saved, .finish 0x31 2 (some 0) none]
        else [.waitTx i, .popToUdata i, .sendByteDrain i b saved])))
  | .waitTx i =>
    match regRead s (.utxcon i) with
    | .ok x => if x.1 = 0 then .rest (x.2.push [.waitTx i]) else .go x.2
    | .fault k => .fault k
    | .refused r => .refused r
  | .popToUdata i =>
    .ofRes ((cbRead s (txBuffer i)).map (fun x => x.2.push [.regWrite (.udata i) (zextByte x.1)]))
  | .recvByteSave i =>
    .ofRes ((regRead s (.ucon i)).map (fun x =>
      x.2.push [.maskRead i .mrxr true, .recvByteTest i (bitOf x.1 MaskBit.mrxr.position)]))
  | .recvByteTest i saved =>
    .ofRes ((cbIsEmpty s (rxBuffer i)).map (fun e =>
      s.push (if e then [.waitRx i, .recvByteData i saved] else [.recvBytePop i saved])))
  | .recvBytePop i saved =>
    .ofRes ((cbRead s (rxBuffer i)).map (fun x => x.2.push (recvByteEnd i saved x.1)))
  | .waitRx i =>
    match regRead s (.urxcon i) with
    | .ok x => if x.1 = 0 then .rest (x.2.push [.waitRx i]) else .go x.2
    | .fault k => .fault k
    | .refused r => .refused r
  | .recvByteData i saved =>
    .ofRes ((regRead s (.udata i)).map (fun x => x.2.push (recvByteEnd i saved (lowByte x.1))))
  | .sendTest i buf count n =>
    .ofRes ((cbIsFull s (txBuffer i)).map (fun full =>
      s.push (if full then sendNext i buf count n false else [.sendLoad i buf count n])))
  | .sendLoad i buf count n =>
    .ofRes ((memRead s (buf + n)).map (fun b => s.push [.sendPut i buf count n b]))
  | .sendPut i buf count n b =>
    .ofRes ((cbWrite s (txBuffer i) b).map (fun s' =>
      s'.push (sendNext i buf count (n + 1) (n.toNat + 1 < count.toNat))))
  | .recvTest i buf count n =>
    .ofRes ((cbIsEmpty s (rxBuffer i)).map (fun e =>
      s.push (if e then recvNext i buf count n false else [.recvPop i buf count n])))
  | .recvPop i buf count n =>
    .ofRes ((cbRead s (rxBuffer i)).map (fun x => x.2.push [.recvStore i buf count n x.1]))
  | .recvStore i buf count n b =>
    .ofRes ((memWrite s (buf + n) b).map (fun s' =>
      s'.push (recvNext i buf count (n + 1) (n.toNat + 1 < count.toNat))))
  | .isrStatus i => .ofRes ((regRead s (.ustat i)).map (fun x => x.2.push [.isrRxMask i x.1]))
  | .isrRxMask i st =>
    .ofRes ((regRead s (.ucon i)).map (fun x =>
      x.2.push (if bitOf st 6 && !bitOf x.1 13 then [.isrRxTest i st] else [.isrTxMask i st])))
  | .isrRxTest i st =>
    .ofRes ((cbIsFull s (rxBuffer i)).map (fun full =>
      s.push (if full then [.isrRxCall i st] else [.isrRxLevel i st])))
  | .isrRxLevel i st =>
    .ofRes ((regRead s (.urxcon i)).map (fun x =>
      x.2.push (if x.1 = 0 then [.isrRxCall i st] else [.isrRxData i st])))
  | .isrRxData i st => .ofRes ((regRead s (.udata i)).map (fun x => x.2.push [.isrRxPut i st (lowByte x.1)]))
  | .isrRxPut i st b => .ofRes ((cbWrite s (rxBuffer i) b).map (fun s' => s'.push [.isrRxTest i st]))
  | .isrRxCall i st => .go (s.push (callFrames i .rx (s.uart.get i).rxCb ++ [.isrRxEnd i st]))
  | .isrRxEnd i st =>
    .ofRes ((cbIsFull s (rxBuffer i)).map (fun full =>
      s.push (if full then [.maskRead i .mrxr true, .isrTxMask i st] else [.isrTxMask i st])))
  | .isrTxMask i st =>
    .ofRes ((regRead s (.ucon i)).map (fun x =>
      x.2.push (if bitOf st 7 && !bitOf x.1 14 then [.isrTxTest i] else [.isrReturn])))
  | .isrTxTest i =>
    .ofRes ((cbIsEmpty s (txBuffer i)).map (fun e => s.push (if e then [.isrTxCall i] else [.isrTxLevel i])))
  | .isrTxLevel i =>
    .ofRes ((regRead s (.utxcon i)).map (fun x =>
      x.2.push (if x.1 = 0 then [.isrTxCall i] else [.popToUdata i, .isrTxTest i])))
  | .isrTxCall i => .go (s.push (callFrames i .tx (s.uart.get i).txCb ++ [.isrTxEnd i]))
  | .isrTxEnd i =>
    .ofRes ((cbIsEmpty s (txBuffer i)).map (fun e =>
      s.push (if e then [.maskRead i .mtxr true, .isrReturn] else [.isrReturn])))
  | .invoke i d h =>
    let s' := s.emit (.callbackInvoked i d h)
    .rest { s' with cur := { pc := 0, ret := none, out := none, todo := .callback h :: s'.cur.todo } }
  | .callback h => .rest (s.push [.callback h])
  | .isrReturn => .rest s.interruptReturn

/-- The next atomic step of the running context. -/
def atomic (s : State) : Micro :=
  match s.cur.todo with
  | [] => .rest s
  | f :: fs => frame f (s.setTodo fs)

/-- Up to `n` further atomic steps of the running context. It gives way early where a step says so, and before a step
that would fault or be refused: that one then stands first in a later step of the model (log 5, 6). -/
def goOn : Nat → State → State
  | 0, s => s
  | n + 1, s =>
    match atomic s with
    | .go s' => goOn n s'
    | .rest s' => s'
    | .fault _ => s
    | .refused _ => s

/-- The running context takes its next atomic step, and then up to `slice` more. -/
def burst (s : State) : Host.Outcome State Fault Refusal :=
  match atomic s with
  | .go s' => .next (goOn s.slice s')
  | .rest s' => .next s'
  | .fault k => .fault k
  | .refused r => .refused r

/-- How a command begins once its checks have passed (log 18). -/
inductive Start where
  /-- Its first atomic step is done; `rest` is what follows. -/
  | did (s : State) (rest : List Frame)
  /-- It takes the steps of `rest`. -/
  | go (rest : List Frame)

/-- Every command's meaning: at a command boundary it begins as `start` says, and inside the command it goes on with
the steps still to take (10 R21: `pc` designates the operation in progress; log 25). -/
def operation (s : State) (start : Res Start) : Host.Outcome State Fault Refusal :=
  if s.atStart then
    match start with
    | .ok (.did s' rest) => .next (goOn s.slice (s'.push rest))
    | .ok (.go rest) => burst (s.push rest)
    | .fault k => .fault k
    | .refused r => .refused r
  else burst s

/-- The command `opcode` with `n` arguments ends in an error return (60 R410). -/
def errStart (s : State) (opcode : Byte) (n : Nat) : Res Start :=
  .ok (.did s.errReturn [.finish opcode n none none])

/-- The command's only atomic step before completion gives `x`; on success `ret` is `ret` and `out` is untouched. -/
def oneStep (opcode : Byte) (n : Nat) (ret : Word) (x : Res State) : Res Start :=
  x.map (fun s' => .did s' [.finish opcode n (some ret) none])

end Sys2Proof.Machine
end

