-- ==== Sys2Proof/Machine/CircBuf.lean ====
section
/-! DEFINITION. The circular-buffer operations (43 R252 to R256). -/

namespace Sys2Proof.Machine

/-- 43 R253, R254: 1 or 0, written to `ret` in the step of the test. -/
def answerBool (s : State) (b : Bool) : State := s.setRet (bitAt 0 b)

/-- `cb.init h, storage, cap` (0x20), 43 R252. -/
def execCbInit (h storage cap : Word) (s : State) : Host.Outcome State Fault Refusal :=
  operation s (oneStep 0x20 3 0 (cbInit s h.toNat storage cap.toNat))

/-- `cb.is_empty h` (0x21), 43 R253. -/
def execCbIsEmpty (h : Word) (s : State) : Host.Outcome State Fault Refusal :=
  operation s ((cbIsEmpty s h.toNat).map (fun e => .did (answerBool s e) [.finish 0x21 1 none none]))

/-- `cb.is_full h` (0x22), 43 R254. -/
def execCbIsFull (h : Word) (s : State) : Host.Outcome State Fault Refusal :=
  operation s ((cbIsFull s h.toNat).map (fun e => .did (answerBool s e) [.finish 0x22 1 none none]))

/-- `cb.write h, byte` (0x23), 43 R255. -/
def execCbWrite (h byte : Word) (s : State) : Host.Outcome State Fault Refusal :=
  operation s (oneStep 0x23 2 0 (cbWrite s h.toNat (lowByte byte)))

/-- `cb.read h` (0x24), 43 R256. -/
def execCbRead (h : Word) (s : State) : Host.Outcome State Fault Refusal :=
  operation s ((cbRead s h.toNat).map (fun x => .did x.2 [.finish 0x24 1 (some (zextByte x.1)) none]))

end Sys2Proof.Machine
end

