-- ==== Sys2Proof/Machine/Critical.lean ====
section
/-! DEFINITION. The critical-section operations (42 R220 to R228). -/

namespace Sys2Proof.Machine

/-- 42 R220: the mask bits become `i`, `f` in privileged mode; in unprivileged mode nothing changes. -/
def State.setMasks (s : State) (i f : Bool) : State :=
  match s.mode with
  | .privileged => { s with cpu := { s.cpu with i := i, f := f } }
  | .unprivileged => s

/-- `cs.disable_interrupts` (0x10), 42 R221. -/
def execCsDisableInterrupts (s : State) : Host.Outcome State Fault Refusal :=
  operation s (oneStep 0x10 0 (maskword s.cpu.i s.cpu.f) (.ok (s.setMasks true true)))

/-- `cs.restore_interrupts saved` (0x11), 42 R222. -/
def execCsRestoreInterrupts (saved : Word) (s : State) : Host.Outcome State Fault Refusal :=
  operation s (oneStep 0x11 1 0 (.ok (s.setMasks (bitOf saved 7) (bitOf saved 6))))

/-- `cs.disable_irq` (0x12), 42 R223. -/
def execCsDisableIrq (s : State) : Host.Outcome State Fault Refusal :=
  operation s (oneStep 0x12 0 (maskword s.cpu.i false) (.ok (s.setMasks true s.cpu.f)))

/-- `cs.restore_irq saved` (0x13), 42 R224. -/
def execCsRestoreIrq (saved : Word) (s : State) : Host.Outcome State Fault Refusal :=
  operation s (oneStep 0x13 1 0 (.ok (s.setMasks (bitOf saved 7) s.cpu.f)))

/-- `cs.disable_fiq` (0x14), 42 R225. -/
def execCsDisableFiq (s : State) : Host.Outcome State Fault Refusal :=
  operation s (oneStep 0x14 0 (maskword false s.cpu.f) (.ok (s.setMasks s.cpu.i true)))

/-- `cs.restore_fiq saved` (0x15), 42 R226. -/
def execCsRestoreFiq (saved : Word) (s : State) : Host.Outcome State Fault Refusal :=
  operation s (oneStep 0x15 1 0 (.ok (s.setMasks s.cpu.i (bitOf saved 6))))

/-- `cs.set_handler kind, handler` (0x16), 42 R227. -/
def execCsSetHandler (kind handler : Word) (s : State) : Host.Outcome State Fault Refusal :=
  operation s (match kindOf kind with
    | some k => oneStep 0x16 2 0
        (.ok { s with cpu := { s.cpu with handlers := s.cpu.handlers.set k handler } })
    | none => .refused .badExceptionKind)

/-- `cs.get_handler kind` (0x17), 42 R228: the read of the table writes `ret` in the same step. -/
def execCsGetHandler (kind : Word) (s : State) : Host.Outcome State Fault Refusal :=
  operation s (match kindOf kind with
    | some k => .ok (.did (s.setRet (s.cpu.handlers.get k)) [.finish 0x17 1 none none])
    | none => .refused .badExceptionKind)

end Sys2Proof.Machine
end

