-- ==== Sys2Proof/Machine/Gpio.lean ====
section
/-! DEFINITION. The GPIO operations (41 R180 to R190). -/

namespace Sys2Proof.Machine

/-- The register an output (`true`) or input change of a port's pins is written to (41 R181). -/
def dirRegister (n : Port) (out : Bool) : Reg := if out then .dirSet n else .dirReset n

/-- 41 R190: the mask of a pin's slot. -/
def pinFuncMask (p : Pin) : Word := 3#32 <<< (2 * Pin.slot p)

/-- 41 R190: a function code in a pin's slot. -/
def pinFuncValue (p : Pin) (func : BitVec 2) : Word := func.setWidth 32 <<< (2 * Pin.slot p)

/-- 41 R190: the read-modify-write of one pin's function. -/
def pinFuncFrames (p : Pin) (func : BitVec 2) : List Frame :=
  [.funcRead (Pin.funcReg p) (pinFuncMask p) (pinFuncValue p func)]

/-- 41 R189: the pins of a half of the mask, as slots of that half's register. -/
def halfSlots (mask : Word) (high : Bool) (j : Nat) : Bool := bitOf mask (if high then 16 + j else j)

/-- 41 R189: the read-modify-write of one half of a port, skipped where the mask has no pin of it. -/
def halfFrames (n : Port) (func : BitVec 2) (mask : Word) (high : Bool) : List Frame :=
  if spreadSlots (halfSlots mask high) 3#2 = 0 then []
  else [.funcRead (halfReg n high) (spreadSlots (halfSlots mask high) 3#2) (spreadSlots (halfSlots mask high) func)]

/-- `gpio.set_port_dir port, mask, dir` (0x01), 41 R181. -/
def execGpioSetPortDir (port mask dir : Word) (s : State) : Host.Outcome State Fault Refusal :=
  operation s (match portOf port, dirOf dir with
    | some n, some out => oneStep 0x01 3 0 (regWrite s (dirRegister n out) mask)
    | _, _ => errStart s 0x01 3)

/-- `gpio.set_pin_dir pin, dir` (0x02), 41 R182. -/
def execGpioSetPinDir (pin dir : Word) (s : State) : Host.Outcome State Fault Refusal :=
  operation s (match pinOf pin, dirOf dir with
    | some p, some out => oneStep 0x02 2 0 (regWrite s (dirRegister (Pin.port p) out) (Pin.mask p))
    | _, _ => errStart s 0x02 2)

/-- `gpio.set_port port, mask` (0x03), 41 R183. -/
def execGpioSetPort (port mask : Word) (s : State) : Host.Outcome State Fault Refusal :=
  operation s (match portOf port with
    | some n => oneStep 0x03 2 0 (regWrite s (.dataSet n) mask)
    | none => errStart s 0x03 2)

/-- `gpio.clear_port port, mask` (0x04), 41 R184. -/
def execGpioClearPort (port mask : Word) (s : State) : Host.Outcome State Fault Refusal :=
  operation s (match portOf port with
    | some n => oneStep 0x04 2 0 (regWrite s (.dataReset n) mask)
    | none => errStart s 0x04 2)

/-- `gpio.set_pin pin` (0x05), 41 R185. -/
def execGpioSetPin (pin : Word) (s : State) : Host.Outcome State Fault Refusal :=
  operation s (match pinOf pin with
    | some p => oneStep 0x05 1 0 (regWrite s (.dataSet (Pin.port p)) (Pin.mask p))
    | none => errStart s 0x05 1)

/-- `gpio.clear_pin pin` (0x06), 41 R186. -/
def execGpioClearPin (pin : Word) (s : State) : Host.Outcome State Fault Refusal :=
  operation s (match pinOf pin with
    | some p => oneStep 0x06 1 0 (regWrite s (.dataReset (Pin.port p)) (Pin.mask p))
    | none => errStart s 0x06 1)

/-- `gpio.get_port port` (0x07), 41 R187. -/
def execGpioGetPort (port : Word) (s : State) : Host.Outcome State Fault Refusal :=
  operation s (match portOf port with
    | some n => (regRead s (.data n)).map (fun x => .did x.2 [.finish 0x07 1 (some 0) (some x.1)])
    | none => errStart s 0x07 1)

/-- `gpio.get_pin pin` (0x08), 41 R188. -/
def execGpioGetPin (pin : Word) (s : State) : Host.Outcome State Fault Refusal :=
  operation s (match pinOf pin with
    | some p => (regRead s (.data (Pin.port p))).map (fun x =>
        .did x.2 [.finish 0x08 1 (some 0) (some (bitAt 0 (bitOf x.1 (Pin.bit p))))])
    | none => errStart s 0x08 1)

/-- `gpio.set_port_func port, func, mask` (0x09), 41 R189. -/
def execGpioSetPortFunc (port func mask : Word) (s : State) : Host.Outcome State Fault Refusal :=
  operation s (match portOf port, funcOf func with
    | some n, some fn =>
      .ok (.go (halfFrames n fn mask false ++ halfFrames n fn mask true ++ [.finish 0x09 3 (some 0) none]))
    | _, _ => errStart s 0x09 3)

/-- `gpio.set_pin_func pin, func` (0x0A), 41 R190. -/
def execGpioSetPinFunc (pin func : Word) (s : State) : Host.Outcome State Fault Refusal :=
  operation s (match pinOf pin, funcOf func with
    | some p, some fn => .ok (.go (pinFuncFrames p fn ++ [.finish 0x0A 2 (some 0) none]))
    | _, _ => errStart s 0x0A 2)

end Sys2Proof.Machine
end

