-- ==== Sys2Proof/Machine/Itc.lean ====
section
/-! DEFINITION. The interrupt-controller operations (46 R391 to R393). -/

namespace Sys2Proof.Machine

/-- `itc.set_priority src, level` (0x40), 46 R391. -/
def execItcSetPriority (src level : Word) (s : State) : Host.Outcome State Fault Refusal :=
  operation s (oneStep 0x40 2 0 (itcSetPriority s src.toNat level.toNat))

/-- `itc.set_handler src, handler` (0x41), 46 R392. -/
def execItcSetHandler (src handler : Word) (s : State) : Host.Outcome State Fault Refusal :=
  operation s (
    if src.toNat < s.itc.length then
      match isrHandlerOf handler with
      | some h => oneStep 0x41 2 0 (itcSetHandler s src.toNat h)
      | none => .refused .unknownIsrHandler
    else .refused .badSource)

/-- `itc.enable_interrupt src` (0x42), 46 R393. -/
def execItcEnableInterrupt (src : Word) (s : State) : Host.Outcome State Fault Refusal :=
  operation s (oneStep 0x42 1 0 (itcEnableInterrupt s src.toNat))

end Sys2Proof.Machine
end

