-- ==== Sys2Proof/Machine/Bus.lean ====
section
/-! DEFINITION. The bus operations (40 R140, R141) and, shared with the register rows, the transaction on a known
register. -/

namespace Sys2Proof.Machine

/-- 40 R140: the transaction that reads register `r`; the read writes `ret` in its own step. -/
def readRegister (s : State) (r : Reg) : Host.Outcome State Fault Refusal :=
  operation s ((regRead s r).map (fun x => .did (x.2.setRet x.1) [.finish 0x50 1 none none]))

/-- 40 R141: the transaction that writes `v` to register `r`. -/
def writeRegister (s : State) (r : Reg) (v : Word) : Host.Outcome State Fault Refusal :=
  operation s (oneStep 0x51 2 0 (regWrite s r v))

/-- `bus.read addr` (0x50), 40 R140. -/
def execBusRead (addr : Word) (s : State) : Host.Outcome State Fault Refusal :=
  operation s ((busTarget s addr).bind (fun r =>
    (regRead s r).map (fun x => .did (x.2.setRet x.1) [.finish 0x50 1 none none])))

/-- `bus.write addr, value` (0x51), 40 R141. -/
def execBusWrite (addr value : Word) (s : State) : Host.Outcome State Fault Refusal :=
  operation s ((busTarget s addr).bind (fun r => oneStep 0x51 2 0 (regWrite s r value)))

end Sys2Proof.Machine
end

