-- ==== Sys2Proof/Machine/Mmio.lean ====
section
/-! DEFINITION. The register rows of the opcode table: the read and the write of each register over the bus (40 R142 to
R166, 44 R280 to R292). What a read or write does is the register's rule in Machine/Registers.lean. -/

namespace Sys2Proof.Machine

/-- `mmio.read_GPIO_PAD_DIR0`, 40 R142. -/
def execMmioReadGpioPadDir0 (s : State) : Host.Outcome State Fault Refusal := readRegister s (.padDir .zero)

/-- `mmio.write_GPIO_PAD_DIR0`, 40 R143. -/
def execMmioWriteGpioPadDir0 (value : Word) (s : State) : Host.Outcome State Fault Refusal :=
  writeRegister s (.padDir .zero) value

/-- `mmio.read_GPIO_PAD_DIR1`, 40 R142. -/
def execMmioReadGpioPadDir1 (s : State) : Host.Outcome State Fault Refusal := readRegister s (.padDir .one)

/-- `mmio.write_GPIO_PAD_DIR1`, 40 R143. -/
def execMmioWriteGpioPadDir1 (value : Word) (s : State) : Host.Outcome State Fault Refusal :=
  writeRegister s (.padDir .one) value

/-- `mmio.read_GPIO_DATA0`, 40 R144. -/
def execMmioReadGpioData0 (s : State) : Host.Outcome State Fault Refusal := readRegister s (.data .zero)

/-- `mmio.write_GPIO_DATA0`, 40 R145. -/
def execMmioWriteGpioData0 (value : Word) (s : State) : Host.Outcome State Fault Refusal :=
  writeRegister s (.data .zero) value

/-- `mmio.read_GPIO_DATA1`, 40 R144. -/
def execMmioReadGpioData1 (s : State) : Host.Outcome State Fault Refusal := readRegister s (.data .one)

/-- `mmio.write_GPIO_DATA1`, 40 R145. -/
def execMmioWriteGpioData1 (value : Word) (s : State) : Host.Outcome State Fault Refusal :=
  writeRegister s (.data .one) value

/-- `mmio.read_GPIO_PAD_PU_EN0`, 40 R148. -/
def execMmioReadGpioPadPuEn0 (s : State) : Host.Outcome State Fault Refusal := readRegister s (.puEn .zero)

/-- `mmio.write_GPIO_PAD_PU_EN0`, 40 R149. -/
def execMmioWriteGpioPadPuEn0 (value : Word) (s : State) : Host.Outcome State Fault Refusal :=
  writeRegister s (.puEn .zero) value

/-- `mmio.read_GPIO_PAD_PU_EN1`, 40 R148. -/
def execMmioReadGpioPadPuEn1 (s : State) : Host.Outcome State Fault Refusal := readRegister s (.puEn .one)

/-- `mmio.write_GPIO_PAD_PU_EN1`, 40 R149. -/
def execMmioWriteGpioPadPuEn1 (value : Word) (s : State) : Host.Outcome State Fault Refusal :=
  writeRegister s (.puEn .one) value

/-- `mmio.read_GPIO_FUNC_SEL0`, 40 R146. -/
def execMmioReadGpioFuncSel0 (s : State) : Host.Outcome State Fault Refusal := readRegister s (.funcSel .zero)

/-- `mmio.write_GPIO_FUNC_SEL0`, 40 R147. -/
def execMmioWriteGpioFuncSel0 (value : Word) (s : State) : Host.Outcome State Fault Refusal :=
  writeRegister s (.funcSel .zero) value

/-- `mmio.read_GPIO_FUNC_SEL1`, 40 R146. -/
def execMmioReadGpioFuncSel1 (s : State) : Host.Outcome State Fault Refusal := readRegister s (.funcSel .one)

/-- `mmio.write_GPIO_FUNC_SEL1`, 40 R147. -/
def execMmioWriteGpioFuncSel1 (value : Word) (s : State) : Host.Outcome State Fault Refusal :=
  writeRegister s (.funcSel .one) value

/-- `mmio.read_GPIO_FUNC_SEL2`, 40 R146. -/
def execMmioReadGpioFuncSel2 (s : State) : Host.Outcome State Fault Refusal := readRegister s (.funcSel .two)

/-- `mmio.write_GPIO_FUNC_SEL2`, 40 R147. -/
def execMmioWriteGpioFuncSel2 (value : Word) (s : State) : Host.Outcome State Fault Refusal :=
  writeRegister s (.funcSel .two) value

/-- `mmio.read_GPIO_FUNC_SEL3`, 40 R146. -/
def execMmioReadGpioFuncSel3 (s : State) : Host.Outcome State Fault Refusal := readRegister s (.funcSel .three)

/-- `mmio.write_GPIO_FUNC_SEL3`, 40 R147. -/
def execMmioWriteGpioFuncSel3 (value : Word) (s : State) : Host.Outcome State Fault Refusal :=
  writeRegister s (.funcSel .three) value

/-- `mmio.read_GPIO_DATA_SEL0`, 40 R152. -/
def execMmioReadGpioDataSel0 (s : State) : Host.Outcome State Fault Refusal := readRegister s (.dataSel .zero)

/-- `mmio.write_GPIO_DATA_SEL0`, 40 R153. -/
def execMmioWriteGpioDataSel0 (value : Word) (s : State) : Host.Outcome State Fault Refusal :=
  writeRegister s (.dataSel .zero) value

/-- `mmio.read_GPIO_DATA_SEL1`, 40 R152. -/
def execMmioReadGpioDataSel1 (s : State) : Host.Outcome State Fault Refusal := readRegister s (.dataSel .one)

/-- `mmio.write_GPIO_DATA_SEL1`, 40 R153. -/
def execMmioWriteGpioDataSel1 (value : Word) (s : State) : Host.Outcome State Fault Refusal :=
  writeRegister s (.dataSel .one) value

/-- `mmio.read_GPIO_PAD_PU_SEL0`, 40 R150. -/
def execMmioReadGpioPadPuSel0 (s : State) : Host.Outcome State Fault Refusal := readRegister s (.puSel .zero)

/-- `mmio.write_GPIO_PAD_PU_SEL0`, 40 R151. -/
def execMmioWriteGpioPadPuSel0 (value : Word) (s : State) : Host.Outcome State Fault Refusal :=
  writeRegister s (.puSel .zero) value

/-- `mmio.read_GPIO_PAD_PU_SEL1`, 40 R150. -/
def execMmioReadGpioPadPuSel1 (s : State) : Host.Outcome State Fault Refusal := readRegister s (.puSel .one)

/-- `mmio.write_GPIO_PAD_PU_SEL1`, 40 R151. -/
def execMmioWriteGpioPadPuSel1 (value : Word) (s : State) : Host.Outcome State Fault Refusal :=
  writeRegister s (.puSel .one) value

/-- `mmio.read_GPIO_PAD_HYST_EN0`, 40 R154. -/
def execMmioReadGpioPadHystEn0 (s : State) : Host.Outcome State Fault Refusal := readRegister s (.hystEn .zero)

/-- `mmio.write_GPIO_PAD_HYST_EN0`, 40 R155. -/
def execMmioWriteGpioPadHystEn0 (value : Word) (s : State) : Host.Outcome State Fault Refusal :=
  writeRegister s (.hystEn .zero) value

/-- `mmio.read_GPIO_PAD_HYST_EN1`, 40 R154. -/
def execMmioReadGpioPadHystEn1 (s : State) : Host.Outcome State Fault Refusal := readRegister s (.hystEn .one)

/-- `mmio.write_GPIO_PAD_HYST_EN1`, 40 R155. -/
def execMmioWriteGpioPadHystEn1 (value : Word) (s : State) : Host.Outcome State Fault Refusal :=
  writeRegister s (.hystEn .one) value

/-- `mmio.read_GPIO_PAD_KEEP0`, 40 R165. -/
def execMmioReadGpioPadKeep0 (s : State) : Host.Outcome State Fault Refusal := readRegister s (.keep .zero)

/-- `mmio.write_GPIO_PAD_KEEP0`, 40 R166. -/
def execMmioWriteGpioPadKeep0 (value : Word) (s : State) : Host.Outcome State Fault Refusal :=
  writeRegister s (.keep .zero) value

/-- `mmio.read_GPIO_PAD_KEEP1`, 40 R165. -/
def execMmioReadGpioPadKeep1 (s : State) : Host.Outcome State Fault Refusal := readRegister s (.keep .one)

/-- `mmio.write_GPIO_PAD_KEEP1`, 40 R166. -/
def execMmioWriteGpioPadKeep1 (value : Word) (s : State) : Host.Outcome State Fault Refusal :=
  writeRegister s (.keep .one) value

/-- `mmio.read_GPIO_DATA_SET0`, 40 R156. -/
def execMmioReadGpioDataSet0 (s : State) : Host.Outcome State Fault Refusal := readRegister s (.dataSet .zero)

/-- `mmio.write_GPIO_DATA_SET0`, 40 R157. -/
def execMmioWriteGpioDataSet0 (value : Word) (s : State) : Host.Outcome State Fault Refusal :=
  writeRegister s (.dataSet .zero) value

/-- `mmio.read_GPIO_DATA_SET1`, 40 R156. -/
def execMmioReadGpioDataSet1 (s : State) : Host.Outcome State Fault Refusal := readRegister s (.dataSet .one)

/-- `mmio.write_GPIO_DATA_SET1`, 40 R157. -/
def execMmioWriteGpioDataSet1 (value : Word) (s : State) : Host.Outcome State Fault Refusal :=
  writeRegister s (.dataSet .one) value

/-- `mmio.read_GPIO_DATA_RESET0`, 40 R158. -/
def execMmioReadGpioDataReset0 (s : State) : Host.Outcome State Fault Refusal := readRegister s (.dataReset .zero)

/-- `mmio.write_GPIO_DATA_RESET0`, 40 R159. -/
def execMmioWriteGpioDataReset0 (value : Word) (s : State) : Host.Outcome State Fault Refusal :=
  writeRegister s (.dataReset .zero) value

/-- `mmio.read_GPIO_DATA_RESET1`, 40 R158. -/
def execMmioReadGpioDataReset1 (s : State) : Host.Outcome State Fault Refusal := readRegister s (.dataReset .one)

/-- `mmio.write_GPIO_DATA_RESET1`, 40 R159. -/
def execMmioWriteGpioDataReset1 (value : Word) (s : State) : Host.Outcome State Fault Refusal :=
  writeRegister s (.dataReset .one) value

/-- `mmio.read_GPIO_PAD_DIR_SET0`, 40 R160. -/
def execMmioReadGpioPadDirSet0 (s : State) : Host.Outcome State Fault Refusal := readRegister s (.dirSet .zero)

/-- `mmio.write_GPIO_PAD_DIR_SET0`, 40 R161. -/
def execMmioWriteGpioPadDirSet0 (value : Word) (s : State) : Host.Outcome State Fault Refusal :=
  writeRegister s (.dirSet .zero) value

/-- `mmio.read_GPIO_PAD_DIR_SET1`, 40 R160. -/
def execMmioReadGpioPadDirSet1 (s : State) : Host.Outcome State Fault Refusal := readRegister s (.dirSet .one)

/-- `mmio.write_GPIO_PAD_DIR_SET1`, 40 R161. -/
def execMmioWriteGpioPadDirSet1 (value : Word) (s : State) : Host.Outcome State Fault Refusal :=
  writeRegister s (.dirSet .one) value

/-- `mmio.read_GPIO_PAD_DIR_RESET0`, 40 R162. -/
def execMmioReadGpioPadDirReset0 (s : State) : Host.Outcome State Fault Refusal := readRegister s (.dirReset .zero)

/-- `mmio.write_GPIO_PAD_DIR_RESET0`, 40 R163. -/
def execMmioWriteGpioPadDirReset0 (value : Word) (s : State) : Host.Outcome State Fault Refusal :=
  writeRegister s (.dirReset .zero) value

/-- `mmio.read_GPIO_PAD_DIR_RESET1`, 40 R162. -/
def execMmioReadGpioPadDirReset1 (s : State) : Host.Outcome State Fault Refusal := readRegister s (.dirReset .one)

/-- `mmio.write_GPIO_PAD_DIR_RESET1`, 40 R163. -/
def execMmioWriteGpioPadDirReset1 (value : Word) (s : State) : Host.Outcome State Fault Refusal :=
  writeRegister s (.dirReset .one) value

/-- `mmio.read_UCON0`, 44 R280. -/
def execMmioReadUcon0 (s : State) : Host.Outcome State Fault Refusal := readRegister s (.ucon .zero)

/-- `mmio.write_UCON0`, 44 R281. -/
def execMmioWriteUcon0 (value : Word) (s : State) : Host.Outcome State Fault Refusal :=
  writeRegister s (.ucon .zero) value

/-- `mmio.read_UCON1`, 44 R280. -/
def execMmioReadUcon1 (s : State) : Host.Outcome State Fault Refusal := readRegister s (.ucon .one)

/-- `mmio.write_UCON1`, 44 R281. -/
def execMmioWriteUcon1 (value : Word) (s : State) : Host.Outcome State Fault Refusal :=
  writeRegister s (.ucon .one) value

/-- `mmio.read_USTAT0`, 44 R282. -/
def execMmioReadUstat0 (s : State) : Host.Outcome State Fault Refusal := readRegister s (.ustat .zero)

/-- `mmio.write_USTAT0`, 44 R283. -/
def execMmioWriteUstat0 (value : Word) (s : State) : Host.Outcome State Fault Refusal :=
  writeRegister s (.ustat .zero) value

/-- `mmio.read_USTAT1`, 44 R282. -/
def execMmioReadUstat1 (s : State) : Host.Outcome State Fault Refusal := readRegister s (.ustat .one)

/-- `mmio.write_USTAT1`, 44 R283. -/
def execMmioWriteUstat1 (value : Word) (s : State) : Host.Outcome State Fault Refusal :=
  writeRegister s (.ustat .one) value

/-- `mmio.read_UDATA0`, 44 R284. -/
def execMmioReadUdata0 (s : State) : Host.Outcome State Fault Refusal := readRegister s (.udata .zero)

/-- `mmio.write_UDATA0`, 44 R285. -/
def execMmioWriteUdata0 (value : Word) (s : State) : Host.Outcome State Fault Refusal :=
  writeRegister s (.udata .zero) value

/-- `mmio.read_UDATA1`, 44 R284. -/
def execMmioReadUdata1 (s : State) : Host.Outcome State Fault Refusal := readRegister s (.udata .one)

/-- `mmio.write_UDATA1`, 44 R285. -/
def execMmioWriteUdata1 (value : Word) (s : State) : Host.Outcome State Fault Refusal :=
  writeRegister s (.udata .one) value

/-- `mmio.read_URXCON0`, 44 R286. -/
def execMmioReadUrxcon0 (s : State) : Host.Outcome State Fault Refusal := readRegister s (.urxcon .zero)

/-- `mmio.write_URXCON0`, 44 R287. -/
def execMmioWriteUrxcon0 (value : Word) (s : State) : Host.Outcome State Fault Refusal :=
  writeRegister s (.urxcon .zero) value

/-- `mmio.read_URXCON1`, 44 R286. -/
def execMmioReadUrxcon1 (s : State) : Host.Outcome State Fault Refusal := readRegister s (.urxcon .one)

/-- `mmio.write_URXCON1`, 44 R287. -/
def execMmioWriteUrxcon1 (value : Word) (s : State) : Host.Outcome State Fault Refusal :=
  writeRegister s (.urxcon .one) value

/-- `mmio.read_UTXCON0`, 44 R288. -/
def execMmioReadUtxcon0 (s : State) : Host.Outcome State Fault Refusal := readRegister s (.utxcon .zero)

/-- `mmio.write_UTXCON0`, 44 R289. -/
def execMmioWriteUtxcon0 (value : Word) (s : State) : Host.Outcome State Fault Refusal :=
  writeRegister s (.utxcon .zero) value

/-- `mmio.read_UTXCON1`, 44 R288. -/
def execMmioReadUtxcon1 (s : State) : Host.Outcome State Fault Refusal := readRegister s (.utxcon .one)

/-- `mmio.write_UTXCON1`, 44 R289. -/
def execMmioWriteUtxcon1 (value : Word) (s : State) : Host.Outcome State Fault Refusal :=
  writeRegister s (.utxcon .one) value

/-- `mmio.read_UCTS0`, 44 R292. -/
def execMmioReadUcts0 (s : State) : Host.Outcome State Fault Refusal := readRegister s (.ucts .zero)

/-- `mmio.write_UCTS0`, 44 R292. -/
def execMmioWriteUcts0 (value : Word) (s : State) : Host.Outcome State Fault Refusal :=
  writeRegister s (.ucts .zero) value

/-- `mmio.read_UCTS1`, 44 R292. -/
def execMmioReadUcts1 (s : State) : Host.Outcome State Fault Refusal := readRegister s (.ucts .one)

/-- `mmio.write_UCTS1`, 44 R292. -/
def execMmioWriteUcts1 (value : Word) (s : State) : Host.Outcome State Fault Refusal :=
  writeRegister s (.ucts .one) value

/-- `mmio.read_UBRCNT0`, 44 R290. -/
def execMmioReadUbrcnt0 (s : State) : Host.Outcome State Fault Refusal := readRegister s (.ubrcnt .zero)

/-- `mmio.write_UBRCNT0`, 44 R291. -/
def execMmioWriteUbrcnt0 (value : Word) (s : State) : Host.Outcome State Fault Refusal :=
  writeRegister s (.ubrcnt .zero) value

/-- `mmio.read_UBRCNT1`, 44 R290. -/
def execMmioReadUbrcnt1 (s : State) : Host.Outcome State Fault Refusal := readRegister s (.ubrcnt .one)

/-- `mmio.write_UBRCNT1`, 44 R291. -/
def execMmioWriteUbrcnt1 (value : Word) (s : State) : Host.Outcome State Fault Refusal :=
  writeRegister s (.ubrcnt .one) value

end Sys2Proof.Machine
end

