-- ==== Sys2Proof/Machine/Uart.lean ====
section
/-! DEFINITION. The UART driver's operations (45 R342 to R348, R352). The atomic steps they take, the ISR's and the
callbacks' among them, are the frames of Machine/Frames.lean. -/

namespace Sys2Proof.Machine

/-- 45 R342, step 4: give a pin to the UART and set its direction. -/
def initPin (p : Pin) (out : Bool) : List Frame :=
  pinFuncFrames p Config.uartPinFunc ++ [.regWrite (dirRegister (Pin.port p) out) (Pin.mask p)]

/-- 45 R342, steps 1 to 9 and the registration, with baud register value `reg`. -/
def initFrames (i : Uid) (pins : UartPins) (src : Nat) (reg name : Word) : List Frame :=
  [.regWrite (.ucon i) 0x00006000, .regWrite (.ubrcnt i) reg, .regWrite (.ucon i) 0x00006003]
  ++ initPin pins.tx true ++ initPin pins.rx false ++ initPin pins.cts true ++ initPin pins.rts false
  ++ [.initBuffer (rxBuffer i) Config.uartCbCapacity, .initBuffer (txBuffer i) Config.uartCbCapacity,
    .regWrite (.utxcon i) Config.txWatermark, .regWrite (.urxcon i) Config.rxWatermark,
    .initPriority src, .initHandler src i, .initEnable src,
    .initCallbacks i, .maskRead i .mrxr false, .initRegister i name, .finish 0x30 3 (some 0) none]

/-- 45 R352: go on only where the UART has been initialised. -/
def initialized (s : State) (i : Uid) (fs : List Frame) : Res Start :=
  match (s.uart.get i).ustate with
  | .initialized => .ok (.go fs)
  | .uninitialized => .fault .uartNotInitialized

/-- `uart.init id, baud, name` (0x30), 45 R342. -/
def execUartInit (id baud name : Word) (s : State) : Host.Outcome State Fault Refusal :=
  operation s (match uidOf id with
    | none => errStart s 0x30 3
    | some i =>
      if name = 0 then errStart s 0x30 3
      else match (s.uart.get i).ustate with
        | .initialized => .fault .uartReinit
        | .uninitialized => (baudReg s.params.coreClockHz baud).map (fun reg =>
            .go (initFrames i (s.params.uartPins.get i) (s.params.uartIrqSrc.get i) reg name)))

/-- `uart.send_byte id, byte` (0x31), 45 R343. -/
def execUartSendByte (id byte : Word) (s : State) : Host.Outcome State Fault Refusal :=
  operation s (match uidOf id with
    | none => errStart s 0x31 2
    | some i => initialized s i [.sendByteSave i (lowByte byte)])

/-- `uart.receive_byte id` (0x32), 45 R344. -/
def execUartReceiveByte (id : Word) (s : State) : Host.Outcome State Fault Refusal :=
  operation s (match uidOf id with
    | none => errStart s 0x32 1
    | some i => initialized s i [.recvByteSave i])

/-- `uart.send id, buf, count` (0x33), 45 R345. -/
def execUartSend (id buf count : Word) (s : State) : Host.Outcome State Fault Refusal :=
  operation s (match uidOf id with
    | none => errStart s 0x33 3
    | some i =>
      if buf = 0 then errStart s 0x33 3
      else initialized s i (.maskRead i .mtxr true :: sendNext i buf count 0 (0 < count.toNat)))

/-- `uart.receive id, buf, count` (0x34), 45 R346. -/
def execUartReceive (id buf count : Word) (s : State) : Host.Outcome State Fault Refusal :=
  operation s (match uidOf id with
    | none => errStart s 0x34 3
    | some i =>
      if buf = 0 then errStart s 0x34 3
      else initialized s i (.maskRead i .mrxr true :: recvNext i buf count 0 (0 < count.toNat)))

/-- `uart.set_rx_callback id, fn` (0x35), 45 R347. -/
def execUartSetRxCallback (id fn : Word) (s : State) : Host.Outcome State Fault Refusal :=
  operation s (match uidOf id with
    | none => errStart s 0x35 2
    | some i =>
      if knownCallback s fn then
        oneStep 0x35 2 0 (.ok (s.setUart i { s.uart.get i with rxCb := fn }))
      else .refused .unknownCallback)

/-- `uart.set_tx_callback id, fn` (0x36), 45 R348. -/
def execUartSetTxCallback (id fn : Word) (s : State) : Host.Outcome State Fault Refusal :=
  operation s (match uidOf id with
    | none => errStart s 0x36 2
    | some i =>
      if knownCallback s fn then
        oneStep 0x36 2 0 (.ok (s.setUart i { s.uart.get i with txCb := fn }))
      else .refused .unknownCallback)

end Sys2Proof.Machine
end

