-- ==== Sys2Proof/Machine/Dispatch.lean ====
section
/-! DEFINITION. One arm per instruction, each one call of its meaning. -/

namespace Sys2Proof.Machine

def exec (i : Instr) (s : State) : Host.Outcome State Fault Refusal :=
  match i with
  | .gpioSetPortDir port mask dir => Sys2Proof.Machine.execGpioSetPortDir port mask dir s
  | .gpioSetPinDir pin dir => Sys2Proof.Machine.execGpioSetPinDir pin dir s
  | .gpioSetPort port mask => Sys2Proof.Machine.execGpioSetPort port mask s
  | .gpioClearPort port mask => Sys2Proof.Machine.execGpioClearPort port mask s
  | .gpioSetPin pin => Sys2Proof.Machine.execGpioSetPin pin s
  | .gpioClearPin pin => Sys2Proof.Machine.execGpioClearPin pin s
  | .gpioGetPort port => Sys2Proof.Machine.execGpioGetPort port s
  | .gpioGetPin pin => Sys2Proof.Machine.execGpioGetPin pin s
  | .gpioSetPortFunc port func mask => Sys2Proof.Machine.execGpioSetPortFunc port func mask s
  | .gpioSetPinFunc pin func => Sys2Proof.Machine.execGpioSetPinFunc pin func s
  | .csDisableInterrupts => Sys2Proof.Machine.execCsDisableInterrupts s
  | .csRestoreInterrupts saved => Sys2Proof.Machine.execCsRestoreInterrupts saved s
  | .csDisableIrq => Sys2Proof.Machine.execCsDisableIrq s
  | .csRestoreIrq saved => Sys2Proof.Machine.execCsRestoreIrq saved s
  | .csDisableFiq => Sys2Proof.Machine.execCsDisableFiq s
  | .csRestoreFiq saved => Sys2Proof.Machine.execCsRestoreFiq saved s
  | .csSetHandler kind handler => Sys2Proof.Machine.execCsSetHandler kind handler s
  | .csGetHandler kind => Sys2Proof.Machine.execCsGetHandler kind s
  | .cbInit h storage cap => Sys2Proof.Machine.execCbInit h storage cap s
  | .cbIsEmpty h => Sys2Proof.Machine.execCbIsEmpty h s
  | .cbIsFull h => Sys2Proof.Machine.execCbIsFull h s
  | .cbWrite h byte => Sys2Proof.Machine.execCbWrite h byte s
  | .cbRead h => Sys2Proof.Machine.execCbRead h s
  | .uartInit id baud name => Sys2Proof.Machine.execUartInit id baud name s
  | .uartSendByte id byte => Sys2Proof.Machine.execUartSendByte id byte s
  | .uartReceiveByte id => Sys2Proof.Machine.execUartReceiveByte id s
  | .uartSend id buf count => Sys2Proof.Machine.execUartSend id buf count s
  | .uartReceive id buf count => Sys2Proof.Machine.execUartReceive id buf count s
  | .uartSetRxCallback id fn => Sys2Proof.Machine.execUartSetRxCallback id fn s
  | .uartSetTxCallback id fn => Sys2Proof.Machine.execUartSetTxCallback id fn s
  | .itcSetPriority src level => Sys2Proof.Machine.execItcSetPriority src level s
  | .itcSetHandler src handler => Sys2Proof.Machine.execItcSetHandler src handler s
  | .itcEnableInterrupt src => Sys2Proof.Machine.execItcEnableInterrupt src s
  | .busRead addr => Sys2Proof.Machine.execBusRead addr s
  | .busWrite addr value => Sys2Proof.Machine.execBusWrite addr value s
  | .mmioReadGpioPadDir0 => Sys2Proof.Machine.execMmioReadGpioPadDir0 s
  | .mmioWriteGpioPadDir0 value => Sys2Proof.Machine.execMmioWriteGpioPadDir0 value s
  | .mmioReadGpioPadDir1 => Sys2Proof.Machine.execMmioReadGpioPadDir1 s
  | .mmioWriteGpioPadDir1 value => Sys2Proof.Machine.execMmioWriteGpioPadDir1 value s
  | .mmioReadGpioData0 => Sys2Proof.Machine.execMmioReadGpioData0 s
  | .mmioWriteGpioData0 value => Sys2Proof.Machine.execMmioWriteGpioData0 value s
  | .mmioReadGpioData1 => Sys2Proof.Machine.execMmioReadGpioData1 s
  | .mmioWriteGpioData1 value => Sys2Proof.Machine.execMmioWriteGpioData1 value s
  | .mmioReadGpioPadPuEn0 => Sys2Proof.Machine.execMmioReadGpioPadPuEn0 s
  | .mmioWriteGpioPadPuEn0 value => Sys2Proof.Machine.execMmioWriteGpioPadPuEn0 value s
  | .mmioReadGpioPadPuEn1 => Sys2Proof.Machine.execMmioReadGpioPadPuEn1 s
  | .mmioWriteGpioPadPuEn1 value => Sys2Proof.Machine.execMmioWriteGpioPadPuEn1 value s
  | .mmioReadGpioFuncSel0 => Sys2Proof.Machine.execMmioReadGpioFuncSel0 s
  | .mmioWriteGpioFuncSel0 value => Sys2Proof.Machine.execMmioWriteGpioFuncSel0 value s
  | .mmioReadGpioFuncSel1 => Sys2Proof.Machine.execMmioReadGpioFuncSel1 s
  | .mmioWriteGpioFuncSel1 value => Sys2Proof.Machine.execMmioWriteGpioFuncSel1 value s
  | .mmioReadGpioFuncSel2 => Sys2Proof.Machine.execMmioReadGpioFuncSel2 s
  | .mmioWriteGpioFuncSel2 value => Sys2Proof.Machine.execMmioWriteGpioFuncSel2 value s
  | .mmioReadGpioFuncSel3 => Sys2Proof.Machine.execMmioReadGpioFuncSel3 s
  | .mmioWriteGpioFuncSel3 value => Sys2Proof.Machine.execMmioWriteGpioFuncSel3 value s
  | .mmioReadGpioDataSel0 => Sys2Proof.Machine.execMmioReadGpioDataSel0 s
  | .mmioWriteGpioDataSel0 value => Sys2Proof.Machine.execMmioWriteGpioDataSel0 value s
  | .mmioReadGpioDataSel1 => Sys2Proof.Machine.execMmioReadGpioDataSel1 s
  | .mmioWriteGpioDataSel1 value => Sys2Proof.Machine.execMmioWriteGpioDataSel1 value s
  | .mmioReadGpioPadPuSel0 => Sys2Proof.Machine.execMmioReadGpioPadPuSel0 s
  | .mmioWriteGpioPadPuSel0 value => Sys2Proof.Machine.execMmioWriteGpioPadPuSel0 value s
  | .mmioReadGpioPadPuSel1 => Sys2Proof.Machine.execMmioReadGpioPadPuSel1 s
  | .mmioWriteGpioPadPuSel1 value => Sys2Proof.Machine.execMmioWriteGpioPadPuSel1 value s
  | .mmioReadGpioPadHystEn0 => Sys2Proof.Machine.execMmioReadGpioPadHystEn0 s
  | .mmioWriteGpioPadHystEn0 value => Sys2Proof.Machine.execMmioWriteGpioPadHystEn0 value s
  | .mmioReadGpioPadHystEn1 => Sys2Proof.Machine.execMmioReadGpioPadHystEn1 s
  | .mmioWriteGpioPadHystEn1 value => Sys2Proof.Machine.execMmioWriteGpioPadHystEn1 value s
  | .mmioReadGpioPadKeep0 => Sys2Proof.Machine.execMmioReadGpioPadKeep0 s
  | .mmioWriteGpioPadKeep0 value => Sys2Proof.Machine.execMmioWriteGpioPadKeep0 value s
  | .mmioReadGpioPadKeep1 => Sys2Proof.Machine.execMmioReadGpioPadKeep1 s
  | .mmioWriteGpioPadKeep1 value => Sys2Proof.Machine.execMmioWriteGpioPadKeep1 value s
  | .mmioReadGpioDataSet0 => Sys2Proof.Machine.execMmioReadGpioDataSet0 s
  | .mmioWriteGpioDataSet0 value => Sys2Proof.Machine.execMmioWriteGpioDataSet0 value s
  | .mmioReadGpioDataSet1 => Sys2Proof.Machine.execMmioReadGpioDataSet1 s
  | .mmioWriteGpioDataSet1 value => Sys2Proof.Machine.execMmioWriteGpioDataSet1 value s
  | .mmioReadGpioDataReset0 => Sys2Proof.Machine.execMmioReadGpioDataReset0 s
  | .mmioWriteGpioDataReset0 value => Sys2Proof.Machine.execMmioWriteGpioDataReset0 value s
  | .mmioReadGpioDataReset1 => Sys2Proof.Machine.execMmioReadGpioDataReset1 s
  | .mmioWriteGpioDataReset1 value => Sys2Proof.Machine.execMmioWriteGpioDataReset1 value s
  | .mmioReadGpioPadDirSet0 => Sys2Proof.Machine.execMmioReadGpioPadDirSet0 s
  | .mmioWriteGpioPadDirSet0 value => Sys2Proof.Machine.execMmioWriteGpioPadDirSet0 value s
  | .mmioReadGpioPadDirSet1 => Sys2Proof.Machine.execMmioReadGpioPadDirSet1 s
  | .mmioWriteGpioPadDirSet1 value => Sys2Proof.Machine.execMmioWriteGpioPadDirSet1 value s
  | .mmioReadGpioPadDirReset0 => Sys2Proof.Machine.execMmioReadGpioPadDirReset0 s
  | .mmioWriteGpioPadDirReset0 value => Sys2Proof.Machine.execMmioWriteGpioPadDirReset0 value s
  | .mmioReadGpioPadDirReset1 => Sys2Proof.Machine.execMmioReadGpioPadDirReset1 s
  | .mmioWriteGpioPadDirReset1 value => Sys2Proof.Machine.execMmioWriteGpioPadDirReset1 value s
  | .mmioReadUcon0 => Sys2Proof.Machine.execMmioReadUcon0 s
  | .mmioWriteUcon0 value => Sys2Proof.Machine.execMmioWriteUcon0 value s
  | .mmioReadUcon1 => Sys2Proof.Machine.execMmioReadUcon1 s
  | .mmioWriteUcon1 value => Sys2Proof.Machine.execMmioWriteUcon1 value s
  | .mmioReadUstat0 => Sys2Proof.Machine.execMmioReadUstat0 s
  | .mmioWriteUstat0 value => Sys2Proof.Machine.execMmioWriteUstat0 value s
  | .mmioReadUstat1 => Sys2Proof.Machine.execMmioReadUstat1 s
  | .mmioWriteUstat1 value => Sys2Proof.Machine.execMmioWriteUstat1 value s
  | .mmioReadUdata0 => Sys2Proof.Machine.execMmioReadUdata0 s
  | .mmioWriteUdata0 value => Sys2Proof.Machine.execMmioWriteUdata0 value s
  | .mmioReadUdata1 => Sys2Proof.Machine.execMmioReadUdata1 s
  | .mmioWriteUdata1 value => Sys2Proof.Machine.execMmioWriteUdata1 value s
  | .mmioReadUrxcon0 => Sys2Proof.Machine.execMmioReadUrxcon0 s
  | .mmioWriteUrxcon0 value => Sys2Proof.Machine.execMmioWriteUrxcon0 value s
  | .mmioReadUrxcon1 => Sys2Proof.Machine.execMmioReadUrxcon1 s
  | .mmioWriteUrxcon1 value => Sys2Proof.Machine.execMmioWriteUrxcon1 value s
  | .mmioReadUtxcon0 => Sys2Proof.Machine.execMmioReadUtxcon0 s
  | .mmioWriteUtxcon0 value => Sys2Proof.Machine.execMmioWriteUtxcon0 value s
  | .mmioReadUtxcon1 => Sys2Proof.Machine.execMmioReadUtxcon1 s
  | .mmioWriteUtxcon1 value => Sys2Proof.Machine.execMmioWriteUtxcon1 value s
  | .mmioReadUcts0 => Sys2Proof.Machine.execMmioReadUcts0 s
  | .mmioWriteUcts0 value => Sys2Proof.Machine.execMmioWriteUcts0 value s
  | .mmioReadUcts1 => Sys2Proof.Machine.execMmioReadUcts1 s
  | .mmioWriteUcts1 value => Sys2Proof.Machine.execMmioWriteUcts1 value s
  | .mmioReadUbrcnt0 => Sys2Proof.Machine.execMmioReadUbrcnt0 s
  | .mmioWriteUbrcnt0 value => Sys2Proof.Machine.execMmioWriteUbrcnt0 value s
  | .mmioReadUbrcnt1 => Sys2Proof.Machine.execMmioReadUbrcnt1 s
  | .mmioWriteUbrcnt1 value => Sys2Proof.Machine.execMmioWriteUbrcnt1 value s

end Sys2Proof.Machine
end

