-- ==== Sys2Proof/WellFormed.lean ====
section
/-! DEFINITION. Which instructions are well formed. Every argument word may hold any value (30 R103: a bad value is an
error return or a refusal when the command runs); what is asked is the canonical form of the two bus commands. -/

namespace Sys2Proof

/-- `bus.read` and `bus.write` at a register's address are written as that register's own row (log 1), so the
generic form is well formed only at an address no register has. -/
def Instr.wellFormed : Instr → Bool
  | .busRead a => (regAt a).isNone
  | .busWrite a _ => (regAt a).isNone
  | _ => true

/-- The proposition form of `Instr.wellFormed`. -/
abbrev WellFormed (i : Instr) : Prop := i.wellFormed = true

end Sys2Proof
end

