-- ==== Sys2Proof/Decode.lean ====
section
/-! DEFINITION. Decoding a command (30 R100 to R104), total on any words and rejecting by name, and the encoder written
from the same table. -/

namespace Sys2Proof

/-- Why a command is refused before it runs (30 R101). -/
inductive DecodeError where
  | reservedBits
  | illegalOp
  | truncatedCommand
  deriving DecidableEq, Repr

/-- `bus.read addr`: the register's own row where one is mapped at `addr` (log 1). -/
def busReadCommand (a : Word) : Instr :=
  match regAt a with
  | some r => r.readForm
  | none => .busRead a

/-- `bus.write addr, value`: the register's own row where one is mapped at `addr` (log 1). -/
def busWriteCommand (a v : Word) : Instr :=
  match regAt a with
  | some r => r.writeForm v
  | none => .busWrite a v

/-- 30 R102: for an opcode of the map, the number of argument words it takes and the command they make. -/
def commandOf (op : Nat) (a b c : Word) : Option (Nat × Instr) :=
  match op with
  | 0x01 => some (3, .gpioSetPortDir a b c)
  | 0x02 => some (2, .gpioSetPinDir a b)
  | 0x03 => some (2, .gpioSetPort a b)
  | 0x04 => some (2, .gpioClearPort a b)
  | 0x05 => some (1, .gpioSetPin a)
  | 0x06 => some (1, .gpioClearPin a)
  | 0x07 => some (1, .gpioGetPort a)
  | 0x08 => some (1, .gpioGetPin a)
  | 0x09 => some (3, .gpioSetPortFunc a b c)
  | 0x0A => some (2, .gpioSetPinFunc a b)
  | 0x10 => some (0, .csDisableInterrupts)
  | 0x11 => some (1, .csRestoreInterrupts a)
  | 0x12 => some (0, .csDisableIrq)
  | 0x13 => some (1, .csRestoreIrq a)
  | 0x14 => some (0, .csDisableFiq)
  | 0x15 => some (1, .csRestoreFiq a)
  | 0x16 => some (2, .csSetHandler a b)
  | 0x17 => some (1, .csGetHandler a)
  | 0x20 => some (3, .cbInit a b c)
  | 0x21 => some (1, .cbIsEmpty a)
  | 0x22 => some (1, .cbIsFull a)
  | 0x23 => some (2, .cbWrite a b)
  | 0x24 => some (1, .cbRead a)
  | 0x30 => some (3, .uartInit a b c)
  | 0x31 => some (2, .uartSendByte a b)
  | 0x32 => some (1, .uartReceiveByte a)
  | 0x33 => some (3, .uartSend a b c)
  | 0x34 => some (3, .uartReceive a b c)
  | 0x35 => some (2, .uartSetRxCallback a b)
  | 0x36 => some (2, .uartSetTxCallback a b)
  | 0x40 => some (2, .itcSetPriority a b)
  | 0x41 => some (2, .itcSetHandler a b)
  | 0x42 => some (1, .itcEnableInterrupt a)
  | 0x50 => some (1, busReadCommand a)
  | 0x51 => some (2, busWriteCommand a b)
  | _ => none

/-- 30 R101: decode the command at the head of a word list, and the words that follow it. -/
def decode : List Word → Except DecodeError (Instr × List Word)
  | [] => .error .truncatedCommand
  | h :: rest =>
    if h.toNat / 256 ≠ 0 then .error .reservedBits
    else match commandOf h.toNat (rest.getD 0 0) (rest.getD 1 0) (rest.getD 2 0) with
      | none => .error .illegalOp
      | some (n, i) => if rest.length < n then .error .truncatedCommand else .ok (i, rest.drop n)

/-- 30 R100, R118: the words of an instruction, header first. -/
def encode : Instr → List Word
  | .gpioSetPortDir port mask dir => [0x01, port, mask, dir]
  | .gpioSetPinDir pin dir => [0x02, pin, dir]
  | .gpioSetPort port mask => [0x03, port, mask]
  | .gpioClearPort port mask => [0x04, port, mask]
  | .gpioSetPin pin => [0x05, pin]
  | .gpioClearPin pin => [0x06, pin]
  | .gpioGetPort port => [0x07, port]
  | .gpioGetPin pin => [0x08, pin]
  | .gpioSetPortFunc port func mask => [0x09, port, func, mask]
  | .gpioSetPinFunc pin func => [0x0A, pin, func]
  | .csDisableInterrupts => [0x10]
  | .csRestoreInterrupts saved => [0x11, saved]
  | .csDisableIrq => [0x12]
  | .csRestoreIrq saved => [0x13, saved]
  | .csDisableFiq => [0x14]
  | .csRestoreFiq saved => [0x15, saved]
  | .csSetHandler kind handler => [0x16, kind, handler]
  | .csGetHandler kind => [0x17, kind]
  | .cbInit h storage cap => [0x20, h, storage, cap]
  | .cbIsEmpty h => [0x21, h]
  | .cbIsFull h => [0x22, h]
  | .cbWrite h byte => [0x23, h, byte]
  | .cbRead h => [0x24, h]
  | .uartInit id baud name => [0x30, id, baud, name]
  | .uartSendByte id byte => [0x31, id, byte]
  | .uartReceiveByte id => [0x32, id]
  | .uartSend id buf count => [0x33, id, buf, count]
  | .uartReceive id buf count => [0x34, id, buf, count]
  | .uartSetRxCallback id fn => [0x35, id, fn]
  | .uartSetTxCallback id fn => [0x36, id, fn]
  | .itcSetPriority src level => [0x40, src, level]
  | .itcSetHandler src handler => [0x41, src, handler]
  | .itcEnableInterrupt src => [0x42, src]
  | .busRead addr => [0x50, addr]
  | .busWrite addr value => [0x51, addr, value]
  | .mmioReadGpioPadDir0 => [0x50, Reg.addr (.padDir .zero)]
  | .mmioWriteGpioPadDir0 value => [0x51, Reg.addr (.padDir .zero), value]
  | .mmioReadGpioPadDir1 => [0x50, Reg.addr (.padDir .one)]
  | .mmioWriteGpioPadDir1 value => [0x51, Reg.addr (.padDir .one), value]
  | .mmioReadGpioData0 => [0x50, Reg.addr (.data .zero)]
  | .mmioWriteGpioData0 value => [0x51, Reg.addr (.data .zero), value]
  | .mmioReadGpioData1 => [0x50, Reg.addr (.data .one)]
  | .mmioWriteGpioData1 value => [0x51, Reg.addr (.data .one), value]
  | .mmioReadGpioPadPuEn0 => [0x50, Reg.addr (.puEn .zero)]
  | .mmioWriteGpioPadPuEn0 value => [0x51, Reg.addr (.puEn .zero), value]
  | .mmioReadGpioPadPuEn1 => [0x50, Reg.addr (.puEn .one)]
  | .mmioWriteGpioPadPuEn1 value => [0x51, Reg.addr (.puEn .one), value]
  | .mmioReadGpioFuncSel0 => [0x50, Reg.addr (.funcSel .zero)]
  | .mmioWriteGpioFuncSel0 value => [0x51, Reg.addr (.funcSel .zero), value]
  | .mmioReadGpioFuncSel1 => [0x50, Reg.addr (.funcSel .one)]
  | .mmioWriteGpioFuncSel1 value => [0x51, Reg.addr (.funcSel .one), value]
  | .mmioReadGpioFuncSel2 => [0x50, Reg.addr (.funcSel .two)]
  | .mmioWriteGpioFuncSel2 value => [0x51, Reg.addr (.funcSel .two), value]
  | .mmioReadGpioFuncSel3 => [0x50, Reg.addr (.funcSel .three)]
  | .mmioWriteGpioFuncSel3 value => [0x51, Reg.addr (.funcSel .three), value]
  | .mmioReadGpioDataSel0 => [0x50, Reg.addr (.dataSel .zero)]
  | .mmioWriteGpioDataSel0 value => [0x51, Reg.addr (.dataSel .zero), value]
  | .mmioReadGpioDataSel1 => [0x50, Reg.addr (.dataSel .one)]
  | .mmioWriteGpioDataSel1 value => [0x51, Reg.addr (.dataSel .one), value]
  | .mmioReadGpioPadPuSel0 => [0x50, Reg.addr (.puSel .zero)]
  | .mmioWriteGpioPadPuSel0 value => [0x51, Reg.addr (.puSel .zero), value]
  | .mmioReadGpioPadPuSel1 => [0x50, Reg.addr (.puSel .one)]
  | .mmioWriteGpioPadPuSel1 value => [0x51, Reg.addr (.puSel .one), value]
  | .mmioReadGpioPadHystEn0 => [0x50, Reg.addr (.hystEn .zero)]
  | .mmioWriteGpioPadHystEn0 value => [0x51, Reg.addr (.hystEn .zero), value]
  | .mmioReadGpioPadHystEn1 => [0x50, Reg.addr (.hystEn .one)]
  | .mmioWriteGpioPadHystEn1 value => [0x51, Reg.addr (.hystEn .one), value]
  | .mmioReadGpioPadKeep0 => [0x50, Reg.addr (.keep .zero)]
  | .mmioWriteGpioPadKeep0 value => [0x51, Reg.addr (.keep .zero), value]
  | .mmioReadGpioPadKeep1 => [0x50, Reg.addr (.keep .one)]
  | .mmioWriteGpioPadKeep1 value => [0x51, Reg.addr (.keep .one), value]
  | .mmioReadGpioDataSet0 => [0x50, Reg.addr (.dataSet .zero)]
  | .mmioWriteGpioDataSet0 value => [0x51, Reg.addr (.dataSet .zero), value]
  | .mmioReadGpioDataSet1 => [0x50, Reg.addr (.dataSet .one)]
  | .mmioWriteGpioDataSet1 value => [0x51, Reg.addr (.dataSet .one), value]
  | .mmioReadGpioDataReset0 => [0x50, Reg.addr (.dataReset .zero)]
  | .mmioWriteGpioDataReset0 value => [0x51, Reg.addr (.dataReset .zero), value]
  | .mmioReadGpioDataReset1 => [0x50, Reg.addr (.dataReset .one)]
  | .mmioWriteGpioDataReset1 value => [0x51, Reg.addr (.dataReset .one), value]
  | .mmioReadGpioPadDirSet0 => [0x50, Reg.addr (.dirSet .zero)]
  | .mmioWriteGpioPadDirSet0 value => [0x51, Reg.addr (.dirSet .zero), value]
  | .mmioReadGpioPadDirSet1 => [0x50, Reg.addr (.dirSet .one)]
  | .mmioWriteGpioPadDirSet1 value => [0x51, Reg.addr (.dirSet .one), value]
  | .mmioReadGpioPadDirReset0 => [0x50, Reg.addr (.dirReset .zero)]
  | .mmioWriteGpioPadDirReset0 value => [0x51, Reg.addr (.dirReset .zero), value]
  | .mmioReadGpioPadDirReset1 => [0x50, Reg.addr (.dirReset .one)]
  | .mmioWriteGpioPadDirReset1 value => [0x51, Reg.addr (.dirReset .one), value]
  | .mmioReadUcon0 => [0x50, Reg.addr (.ucon .zero)]
  | .mmioWriteUcon0 value => [0x51, Reg.addr (.ucon .zero), value]
  | .mmioReadUcon1 => [0x50, Reg.addr (.ucon .one)]
  | .mmioWriteUcon1 value => [0x51, Reg.addr (.ucon .one), value]
  | .mmioReadUstat0 => [0x50, Reg.addr (.ustat .zero)]
  | .mmioWriteUstat0 value => [0x51, Reg.addr (.ustat .zero), value]
  | .mmioReadUstat1 => [0x50, Reg.addr (.ustat .one)]
  | .mmioWriteUstat1 value => [0x51, Reg.addr (.ustat .one), value]
  | .mmioReadUdata0 => [0x50, Reg.addr (.udata .zero)]
  | .mmioWriteUdata0 value => [0x51, Reg.addr (.udata .zero), value]
  | .mmioReadUdata1 => [0x50, Reg.addr (.udata .one)]
  | .mmioWriteUdata1 value => [0x51, Reg.addr (.udata .one), value]
  | .mmioReadUrxcon0 => [0x50, Reg.addr (.urxcon .zero)]
  | .mmioWriteUrxcon0 value => [0x51, Reg.addr (.urxcon .zero), value]
  | .mmioReadUrxcon1 => [0x50, Reg.addr (.urxcon .one)]
  | .mmioWriteUrxcon1 value => [0x51, Reg.addr (.urxcon .one), value]
  | .mmioReadUtxcon0 => [0x50, Reg.addr (.utxcon .zero)]
  | .mmioWriteUtxcon0 value => [0x51, Reg.addr (.utxcon .zero), value]
  | .mmioReadUtxcon1 => [0x50, Reg.addr (.utxcon .one)]
  | .mmioWriteUtxcon1 value => [0x51, Reg.addr (.utxcon .one), value]
  | .mmioReadUcts0 => [0x50, Reg.addr (.ucts .zero)]
  | .mmioWriteUcts0 value => [0x51, Reg.addr (.ucts .zero), value]
  | .mmioReadUcts1 => [0x50, Reg.addr (.ucts .one)]
  | .mmioWriteUcts1 value => [0x51, Reg.addr (.ucts .one), value]
  | .mmioReadUbrcnt0 => [0x50, Reg.addr (.ubrcnt .zero)]
  | .mmioWriteUbrcnt0 value => [0x51, Reg.addr (.ubrcnt .zero), value]
  | .mmioReadUbrcnt1 => [0x50, Reg.addr (.ubrcnt .one)]
  | .mmioWriteUbrcnt1 value => [0x51, Reg.addr (.ubrcnt .one), value]

/-- 30 R100: how many words an instruction takes. -/
def Instr.length (i : Instr) : Nat := (encode i).length

/-- The words laid out for an opcode-table word `w` of `nbits` bits: word `k` is bits `32k+31 .. 32k`, and the words
above the table's bits are 0, up to the longest command (four words). A register row of the table gives the ADDRESS of
a transaction, not a command; its command is `bus.read` at that address (log 2). -/
def tableWords (nbits w : Nat) : List Word :=
  let w' := w % 2 ^ nbits
  let word := fun k => BitVec.ofNat 32 (w' / 2 ^ (32 * k))
  match regAt (word 0) with
  | some _ => [0x50, word 0]
  | none => [word 0, word 1, word 2, word 3]

/-- What the decoder reads from the words of an opcode-table row. -/
def decodeTableWord (nbits w : Nat) : Option Instr :=
  match decode (tableWords nbits w) with
  | .ok (i, _) => some i
  | .error _ => none

end Sys2Proof
end

