-- ==== Sys2Proof/Machine/Fetch.lean ====
section
/-! DEFINITION. What the running context does next: the command its pc designates (10 R21, 30 R101), a step of the ISR,
or nothing; how a step's outcome is recorded (60 R412, R413); and the load of one command (log 21). -/

namespace Sys2Proof.Machine

/-- The refusal of a word list that is no command (30 R101). -/
def refusalOf : DecodeError → Refusal
  | .reservedBits => .reservedBits
  | .illegalOp => .illegalOp
  | .truncatedCommand => .truncatedCommand

/-- What the running context has to do. -/
inductive Activity where
  /-- The command at its pc, about to begin or in progress. -/
  | command (i : Instr)
  /-- A step of the ISR (45 R349). -/
  | handler
  /-- The callback program has ended: back to the ISR step after the `invoke` (45 R350, log 20). -/
  | callbackEnd
  /-- The foreground's program has ended (10 R38). -/
  | ended
  /-- The words at its pc are no command. -/
  | refuse (r : Refusal)
  deriving DecidableEq, Repr

/-- The handle of the callback program that is running, if one is. -/
def callbackOf : List Frame → Option Word
  | [] => none
  | .callback h :: _ => some h
  | _ :: fs => callbackOf fs

/-- 45 R350: the program of a callback handle. DESIGN CHOICE (log 35): of two entries with one key the first counts, and
a handle that is no key, which no run from a launch invokes, has the empty program. -/
def State.callbackProgram (s : State) (h : Word) : List Word :=
  match s.params.callbacks.find? (fun c => c.1 == h) with
  | some c => c.2
  | none => []

/-- 30 R101: the command at the pc of a program; `atEnd` where the program ends there. -/
def fetchFrom (s : State) (prog : List Word) (atEnd : Activity) : Activity :=
  if s.atStart && s.cur.pc == prog.length then atEnd
  else match decode (prog.drop s.cur.pc) with
    | .ok (i, _) => .command i
    | .error e => .refuse (refusalOf e)

/-- What the running context does next. -/
def activity (s : State) : Activity :=
  match s.ctx with
  | .fg => fetchFrom s s.params.program .ended
  | .isr _ =>
    match callbackOf s.cur.todo with
    | none => .handler
    | some h => fetchFrom s (s.callbackProgram h) .callbackEnd

/-- The state with the ended callback's frame gone. -/
def State.leaveCallback (s : State) : State := s.setTodo s.cur.todo.tail

/-- Only the spec's own faults are recorded (60 R412); the host outcomes `noStep` and `runEnded` are not. -/
def Fault.recorded : Fault → Bool
  | .noStep => false
  | .runEnded => false
  | _ => true

/-- 60 R412, R413: a fault or a refusal is recorded in the state it arose in; the run then stands (log 6). -/
def settle (s : State) : Host.Outcome State Fault Refusal → Host.Outcome State Fault Refusal
  | .next t => .next t
  | .fault k => if k.recorded then .next (s.recordFault k) else .fault k
  | .refused r => .next (s.recordRefusal r)

/-- The load of the command of an opcode-table row at the foreground's pc, and the choice that the program moves next
(log 21). What an ISR, an operation in progress or a recorded stop would put before the fetch is taken away. -/
def State.loadCommand (s : State) (nbits w : Nat) : State :=
  let before := s.params.program.take s.cur.pc
  let words := before ++ List.replicate (s.cur.pc - before.length) 0#32 ++ tableWords nbits w
  { s with
    params := { s.params with program := words }
    cur := { s.cur with todo := [] }
    ctx := .fg
    saved := none
    faults := []
    refusals := []
    sched := .run Config.defaultSlice :: s.sched }

end Sys2Proof.Machine
end

