-- ==== Sys2Proof/Machine/Step.lean ====
section
/-! DEFINITION. One step of the machine: the agent the schedule names takes its step (10 R20). -/

namespace Sys2Proof.Machine

/-- A step of the running context, of up to `slice + 1` atomic steps. -/
def runContext (s : State) : Host.Outcome State Fault Refusal :=
  settle s (match activity s with
    | .command i => exec i s
    | .handler => burst s
    | .callbackEnd => burst s.leaveCallback
    | .ended => .fault .runEnded
    | .refuse r => .refused r)

/-- One agent's step. After a fault or a refusal only the line agents move (60 R412, R413). -/
def takeTurn (t : Turn) (s : State) : Host.Outcome State Fault Refusal :=
  match t with
  | .txs i => .next (txsStep s i)
  | .rxl i b => .next (rxlStep s i b)
  | .lerr i f => .next (lerrStep s i f)
  | .core src => if s.stopped then s.stopOutcome else .next (coreStep s src)
  | .run n => if s.stopped then s.stopOutcome else runContext { s with slice := n }

/-- The parameters break a constraint and the run is not yet refused for it (70 R451). -/
def launchRefused (s : State) : Bool := !launchOk s && !s.refusals.contains .parameterConstraint

def step (s : State) : Host.Outcome State Fault Refusal :=
  if launchRefused s then .next (s.recordRefusal .parameterConstraint)
  else match s.sched with
    | [] => takeTurn (defaultTurn s) s
    | t :: ts => takeTurn t { s with sched := ts }

/-- The state with an opcode-table row's command where the next step fetches it (log 2, 21). -/
def State.withFetchWord (s : State) (nbits w : Nat) : State := s.loadCommand nbits w

end Sys2Proof.Machine
end

