-- ==== Sys2Proof/Safety.lean ====
section
/-! DEFINITION. What counts as a safe run, and the relations between the fields of the state that the spec states or
implies. Claims are stated in these terms. -/

namespace Sys2Proof.Machine

/-- 10 R38, 60 R412: no fault and no refusal has been recorded. -/
def State.clean (s : State) : Prop := s.faults = [] ∧ s.refusals = []

/-- 10 R38: a run has ended: the foreground stands at its program's end, between two commands, and no `CORE` step is
enabled. -/
def State.ended (s : State) : Prop :=
  s.ctx = .fg ∧ s.cur.todo = [] ∧ s.cur.pc = s.params.program.length ∧ coreEnabled s = false

/-- 10 R38: a run has ended well. -/
def State.endedWell (s : State) : Prop := s.ended ∧ s.clean

/-- 43 R250: the invariant of a buffer, with the canonical form of its slots and a value in each slot it holds. -/
def Cb.Inv (b : Cb) : Prop :=
  Mem.wf b.storage = true ∧
  (b.valid = true →
    b.r < b.cap ∧ b.w < b.cap ∧ b.count ≤ b.cap ∧ b.w = (b.r + b.count) % b.cap ∧
    ∀ j, j < b.count → (b.storage.get ((b.r + j) % b.cap)).isSome = true)

/-- Every circular buffer meets its invariant. -/
def BuffersInv (s : State) : Prop := ∀ b ∈ s.cb, Cb.Inv b

/-- The RAM's canonical form, and nothing listed outside the RAM region (20 R82). -/
def MemInv (s : State) : Prop := Mem.wf s.mem = true ∧ ∀ c ∈ s.mem, inRam c.1 = true

/-- 10 R25: each FIFO holds at most its depth. -/
def FifoInv (s : State) : Prop :=
  ∀ i : Uid, (s.uart.get i).txfifo.length ≤ s.params.txFifoDepth ∧
    (s.uart.get i).rxfifo.length ≤ s.params.rxFifoDepth

/-- 44 R301, R300: loopback is never on, and the two flags the model never latches are 0. -/
def UartFlagsInv (s : State) : Prop :=
  ∀ i : Uid, (s.uart.get i).ucon.tst = false ∧ (s.uart.get i).err.toe = false ∧ (s.uart.get i).err.rue = false

/-- 10 R33: an ISR is running exactly while a continuation is saved. -/
def ContextInv (s : State) : Prop := s.ctx = .fg ↔ s.saved = none

/-- 46 R391, 60 R430: no source has fast priority. -/
def PriorityInv (s : State) : Prop := ∀ e ∈ s.itc, e.prio = .normal

end Sys2Proof.Machine
end

