-- ==== Sys2Proof/Certificates/Slice0/Obligations.lean ====
section
/-! DEFINITION. What is stated about the machine, from the numbered rules of the spec. The first part names what the
statements speak of, in the spec's own terms; the second holds the statements. -/

namespace Sys2Proof.Machine

/-! ### The terms of the statements -/

/-- A command may begin, and the slice has a step left for its completion (log 5, 17). -/
structure Ready (s : State) : Prop where
  boundary : s.atStart = true
  slice : 1 ≤ s.slice

/-- 30 R102: the opcodes with their numbers of argument words. -/
def argCounts : List (Nat × Nat) :=
  [(0x01, 3), (0x02, 2), (0x03, 2), (0x04, 2), (0x05, 1), (0x06, 1), (0x07, 1), (0x08, 1), (0x09, 3), (0x0A, 2)]
  ++ [(0x10, 0), (0x11, 1), (0x12, 0), (0x13, 1), (0x14, 0), (0x15, 1), (0x16, 2), (0x17, 1)]
  ++ [(0x20, 3), (0x21, 1), (0x22, 1), (0x23, 2), (0x24, 1)]
  ++ [(0x30, 3), (0x31, 2), (0x32, 1), (0x33, 3), (0x34, 3), (0x35, 2), (0x36, 2)]
  ++ [(0x40, 2), (0x41, 2), (0x42, 1), (0x50, 1), (0x51, 2)]

/-- 42 R220: `maskword(i, f)`. -/
def maskWord (i f : Bool) : Word := BitVec.ofNat 32 (i.toNat * 2 ^ 7 + f.toNat * 2 ^ 6)

/-- 10 R21, R22, R32: `s` once the operation `opcode` with `n` argument words has completed with `ret`. -/
def State.returned (s : State) (opcode : Byte) (n : Nat) (ret : Word) : State :=
  { s with
    cur := { s.cur with pc := s.cur.pc + 1 + n, ret := some ret }
    history := s.history ++ [.done s.ctx s.cur.pc opcode (some ret) s.cur.out] }

/-- The same, for an operation that also names `out`. -/
def State.returnedOut (s : State) (opcode : Byte) (n : Nat) (ret out : Word) : State :=
  { s with
    cur := { s.cur with pc := s.cur.pc + 1 + n, ret := some ret, out := some out }
    history := s.history ++ [.done s.ctx s.cur.pc opcode (some ret) (some out)] }

/-- 60 R410: `s` once the operation `opcode` with `n` argument words has ended in an error return. The value of `out`
is a free value (log 13). -/
def State.failed (s : State) (opcode : Byte) (n : Nat) : State :=
  { s with
    lastError := .invalidParameter
    draws := s.draws + 1
    cur := { s.cur with pc := s.cur.pc + 1 + n, ret := some 0xFFFFFFFF#32, out := some (Config.freeWord s.draws) }
    history := s.history ++
      [.done s.ctx s.cur.pc opcode (some 0xFFFFFFFF#32) (some (Config.freeWord s.draws))] }

/-- `i` is a register read that answers `v` and leaves `t`, and faults in unprivileged mode (40 R140, 20 R95). -/
def ReadsAs (i : Instr) (s : State) (v : Word) (t : State) : Prop :=
  (s.mode = .privileged → exec i s = .next (t.returned 0x50 1 v)) ∧
  (s.mode = .unprivileged → exec i s = .fault .unprivilegedMmio)

/-- `i` is a register write that leaves `t`, and faults in unprivileged mode (40 R141, 20 R95). -/
def WritesAs (i : Instr) (s : State) (t : State) : Prop :=
  (s.mode = .privileged → exec i s = .next (t.returned 0x51 2 0)) ∧
  (s.mode = .unprivileged → exec i s = .fault .unprivilegedMmio)

/-- An operation of one register access: it completes with `ret = 0` from `t` in privileged mode, and faults in
unprivileged mode. -/
def Accesses (i : Instr) (s : State) (opcode : Byte) (n : Nat) (t : State) : Prop :=
  (s.mode = .privileged → exec i s = .next (t.returned opcode n 0)) ∧
  (s.mode = .unprivileged → exec i s = .fault .unprivilegedMmio)

/-- 10 R24: `func(p)`. -/
def pinFunc (g : Gpio) (p : Nat) : BitVec 2 :=
  (if p < 16 then g.funcSel.at0 else if p < 32 then g.funcSel.at1 else if p < 48 then g.funcSel.at2
    else g.funcSel.at3).extractLsb' (2 * (p % 16)) 2

/-- 10 R24: `is_output(p)`. -/
def pinOut (g : Gpio) (p : Nat) : Bool := (if p < 32 then g.dir.at0 else g.dir.at1).getLsbD (p % 32)

/-- 40 R144, R164: `v` is a value of the data register of port `n`, where the next draw gives the bits no output
drives. -/
def IsData (s : State) (n : Port) (v : Word) : Prop :=
  ∀ b, b < 32 → v.getLsbD b =
    (if (s.gpio.dataSel.get n).getLsbD b = s.params.dataSelLatch then (s.gpio.data.get n).getLsbD b
     else if pinOut s.gpio (32 * n.toNat + b) = true ∧ pinFunc s.gpio (32 * n.toNat + b) = 0 then
       (s.gpio.data.get n).getLsbD b
     else (Config.freeWord s.draws).getLsbD b)

/-- 40 R147: the running context is not the foreground and writes a register the foreground has read and not yet
written back. -/
def Race (s : State) (k : Four) : Prop := s.ctx ≠ .fg ∧ ∃ old, s.fselPending = some (k, old)

/-- 40 R147: the write of `v` to register `k` gives a pin to a UART whose transmitter or receiver is disabled. -/
def MuxTooEarly (s : State) (k : Four) (v : Word) : Prop :=
  ∃ i : Uid, ∃ p ∈ (s.params.uartPins.get i).toList, p.val / 16 = k.toNat ∧
    (s.gpio.funcSel.get k).extractLsb' (2 * (p.val % 16)) 2 ≠ 1#2 ∧ v.extractLsb' (2 * (p.val % 16)) 2 = 1#2 ∧
    ((s.uart.get i).ucon.txe = false ∨ (s.uart.get i).ucon.rxe = false)

/-- 41 R189: `w` is what `gpio.set_port_func` writes to function-select register `k`: the new function in the slot of
each pin of the mask, the register's own value in the others. -/
def IsNewFunctions (s : State) (k : Four) (func : BitVec 2) (mask w : Word) : Prop :=
  ∀ j, j < 16 → w.extractLsb' (2 * j) 2 =
    if mask.getLsbD (16 * (k.toNat % 2) + j) = true then func else (s.gpio.funcSel.get k).extractLsb' (2 * j) 2

/-- 41 R189: the mask has a pin whose function is in register `k`. -/
def Touches (mask : Word) (k : Four) : Prop := ∃ j, j < 16 ∧ mask.getLsbD (16 * (k.toNat % 2) + j) = true

/-- 44 R280: the value of a `UCON` read. -/
def uconValue (u : Ucon) : Word :=
  BitVec.ofNat 32 (u.tst.toNat * 2 ^ 15 + u.mtxr.toNat * 2 ^ 14 + u.mrxr.toNat * 2 ^ 13 + u.st2.toNat * 2 ^ 4
    + u.ep.toNat * 2 ^ 3 + u.pen.toNat * 2 ^ 2 + u.rxe.toNat * 2 + u.txe.toNat)

/-- 44 R293, R294: the two ready flags. -/
abbrev ReceiveReady (s : State) (i : Uid) : Prop := (s.uart.get i).rxfifo.length ≥ (s.uart.get i).rxThr.toNat

abbrev TransmitReady (s : State) (i : Uid) : Prop :=
  s.params.txFifoDepth - (s.uart.get i).txfifo.length ≥ (s.uart.get i).txThr.toNat

/-- 44 R282: `v` is the value of a `USTAT` read. -/
def IsStatus (s : State) (i : Uid) (v : Word) : Prop :=
  (v.getLsbD 7 = true ↔ TransmitReady s i) ∧ (v.getLsbD 6 = true ↔ ReceiveReady s i) ∧
  v.getLsbD 5 = (s.uart.get i).err.rue ∧ v.getLsbD 4 = (s.uart.get i).err.roe ∧
  v.getLsbD 3 = (s.uart.get i).err.toe ∧ v.getLsbD 2 = (s.uart.get i).err.fe ∧
  v.getLsbD 1 = (s.uart.get i).err.pe ∧ v.getLsbD 0 = (s.uart.get i).err.se ∧ v.toNat < 2 ^ 8

/-- 43 R257: `isr_live(i)`. -/
def IsrLive (s : State) (i : Uid) : Prop :=
  (s.uart.get i).ustate = .initialized ∧ s.cpu.i = false ∧
  ∃ e, s.itc[s.params.uartIrqSrc.get i]? = some e ∧ e.enabled = true ∧ e.prio = .normal ∧ e.handler = some i

/-- 43 R257: `guarded(h)`, for the four UART buffers. -/
def Guarded (s : State) (h : Nat) : Prop :=
  (h = 0 → (s.uart.get .zero).ucon.mrxr = true) ∧ (h = 1 → (s.uart.get .zero).ucon.mtxr = true) ∧
  (h = 2 → (s.uart.get .one).ucon.mrxr = true) ∧ (h = 3 → (s.uart.get .one).ucon.mtxr = true)

/-- 43 R257: `check_discipline(h, _)` faults. -/
def Violation (s : State) (h : Nat) : Prop :=
  s.ctx = .fg ∧ h < 4 ∧ IsrLive s (if h < 2 then .zero else .one) ∧ ¬ Guarded s h

/-- The bytes a buffer holds, oldest first (43 R250). -/
def Cb.bytes (b : Cb) : List Byte :=
  (List.range b.count).map (fun j => (b.storage.get ((b.r + j) % b.cap)).getD 0)

/-- A buffer a program may use: initialised, within its invariant, and not shared with a live ISR (43 R250, R257). -/
def Usable (s : State) (h : Nat) (b : Cb) : Prop :=
  s.cb[h]? = some b ∧ b.valid = true ∧ Cb.Inv b ∧ ¬ Violation s h

/-- 45 R340: the handles of a UART's buffers. -/
def rxHandle (i : Uid) : Nat := 2 * i.toNat

def txHandle (i : Uid) : Nat := 2 * i.toNat + 1

/-- 45 R343: what `uart.send_byte` has left to do at a wait for room, with `n` bytes still buffered: the oldest of them
goes out next, or, with none, the byte asked for. -/
def sendLeft (i : Uid) (byte : Word) (saved : Bool) (n : Nat) : List Frame :=
  if n = 0 then
    [.waitTx i, .regWrite (.udata i) ((byte.extractLsb' 0 8).setWidth 32), .maskRead i .mtxr saved,
      .finish 0x31 2 (some 0) none]
  else [.waitTx i, .popToUdata i, .sendByteDrain i (byte.extractLsb' 0 8) saved]

/-- 45 R352 and the invariants a running driver rests on: UART `i` is initialised, its buffers are there and within
their invariant, its control word has no loopback bit, and its FIFO depths are legal (44 R304). -/
structure Driver (s : State) (i : Uid) (rx tx : Cb) : Prop where
  initialized : (s.uart.get i).ustate = .initialized
  mode : s.mode = .privileged
  noLoopback : (s.uart.get i).ucon.tst = false
  txDepth : s.params.txFifoDepth ≤ 63
  rxLevel : (s.uart.get i).rxfifo.length ≤ 63
  rxAt : s.cb[rxHandle i]? = some rx
  txAt : s.cb[txHandle i]? = some tx
  rxValid : rx.valid = true
  txValid : tx.valid = true
  rxInv : Cb.Inv rx
  txInv : Cb.Inv tx

/-- 70 R451: the step is not refused for the parameters, and no fault or refusal has been recorded. -/
def Running (s : State) : Prop := launchRefused s = false ∧ s.faults = [] ∧ s.refusals = []

/-- The bytes a UART's serializer has put on the wire, in order. -/
def wired (i : Uid) (h : List Event) : List Byte :=
  h.filterMap (fun e => match e with
    | .wireTx j b => if j = i then some b else none
    | _ => none)

/-- The bytes the receive line has put into a UART's FIFO, in order. -/
def received (i : Uid) (h : List Event) : List Byte :=
  h.filterMap (fun e => match e with
    | .wireRx j b => if j = i then some b else none
    | _ => none)

/-- The schedule's next turn is one atomic step: a line agent's, the core's, or one of the running context with no
further steps (log 5). -/
def AtomicTurn (s : State) : Prop := ∃ turn ts, s.sched = turn :: ts ∧ ∀ n, turn = .run n → n = 0

/-- The running context's next atomic step is that of `f`, with `fs` to follow: `f` stands first in what the context has
left, or comes next after a callback program that has ended. -/
def NextFrame (s : State) (f : Frame) (fs : List Frame) : Prop :=
  s.cur.todo = f :: fs ∨ (activity s = .callbackEnd ∧ s.cur.todo.tail = f :: fs)

/-- The running context is at the boundary of the command `i`. -/
def AtCommand (s : State) (i : Instr) : Prop := s.atStart = true ∧ activity s = .command i

/-- 44 R284: the atomic step from `s` to `t` reads `UDATA<i>`, and the byte read is `b`: a register-read command answers
it, `uart.receive_byte` goes on to return it, or the ISR goes on to put it into the receive buffer. -/
def ReadsUdata (s t : State) (i : Uid) (b : Byte) : Prop :=
  (AtCommand s (if i = .zero then .mmioReadUdata0 else .mmioReadUdata1) ∧ t.cur.ret = some (b.setWidth 32)) ∨
  (∃ saved fs, NextFrame s (.recvByteData i saved) fs ∧
    t.cur.todo = .maskRead i .mrxr saved :: .finish 0x32 1 (some (b.setWidth 32)) none :: fs) ∨
  (∃ st fs, NextFrame s (.isrRxData i st) fs ∧ t.cur.todo = .isrRxPut i st b :: fs)

/-- 44 R285: the atomic step from `s` writes `v` to `UDATA<i>`: a register-write command, or a step of the driver. -/
def WritesUdata (s : State) (i : Uid) (v : Word) : Prop :=
  AtCommand s (if i = .zero then .mmioWriteUdata0 v else .mmioWriteUdata1 v) ∨
  ∃ fs, NextFrame s (.regWrite (.udata i) v) fs

/-- The words that the completed `cb.read` commands of a history returned, in order. -/
def readResults (h : List Event) : List (Option Word) :=
  h.filterMap (fun e => match e with
    | .done _ _ op ret _ => if op = 0x24#8 then some ret else none
    | _ => none)

/-- Run commands one after another, as long as each gives a next state. -/
def execAll : List Instr → State → Option State
  | [], s => some s
  | i :: is, s =>
    match exec i s with
    | .next t => execAll is t
    | _ => none

end Sys2Proof.Machine

open Sys2Proof Sys2Proof.Machine

/-! ### Encoding -/

/-- 30 R100, R101, R103. -/
def Obligations.DecodeOfEncode : Prop :=
  ∀ (i : Instr) (rest : List Word), WellFormed i → decode (encode i ++ rest) = .ok (i, rest)

/-- 30 R100, R101: what decodes is well formed and re-encodes to the words read. -/
def Obligations.DecodeIsCanonical : Prop :=
  ∀ (ws rest : List Word) (i : Instr), decode ws = .ok (i, rest) → WellFormed i ∧ ws = encode i ++ rest

/-- 30 R101, R104. -/
def Obligations.DecodeRefusals : Prop :=
  ∀ (h : Word) (rest : List Word),
    (h.extractLsb' 8 24 ≠ 0 → decode (h :: rest) = .error .reservedBits) ∧
    (h.extractLsb' 8 24 = 0 → (∀ n, (h.toNat, n) ∉ argCounts) → decode (h :: rest) = .error .illegalOp) ∧
    (∀ n, h.extractLsb' 8 24 = 0 → (h.toNat, n) ∈ argCounts → rest.length < n →
      decode (h :: rest) = .error .truncatedCommand) ∧
    (∀ n, h.extractLsb' 8 24 = 0 → (h.toNat, n) ∈ argCounts → n ≤ rest.length →
      ∃ i, decode (h :: rest) = .ok (i, rest.drop n) ∧ encode i = h :: rest.take n)

/-- 30 R102, R106, R107, R118: words written out from the tables, one or more for each family. -/
def Obligations.SampleWordsDecode : Prop :=
  decode [0x00000002#32, 0x0000002C#32, 0x00000001#32] = .ok (.gpioSetPinDir 44 1, []) ∧
  decode [0x0000000A#32, 0x0000000E#32, 0x00000001#32] = .ok (.gpioSetPinFunc 14 1, []) ∧
  decode [0x00000013#32, 0x00000000#32] = .ok (.csRestoreIrq 0, []) ∧
  decode [0x00000020#32, 0x00000004#32, 0x00401000#32, 0x00000003#32] = .ok (.cbInit 4 0x00401000 3, []) ∧
  decode [0x00000030#32, 0x00000000#32, 0x0001C200#32, 0x00400000#32] = .ok (.uartInit 0 115200 0x00400000, []) ∧
  decode [0x00000042#32, 0x00000001#32] = .ok (.itcEnableInterrupt 1, []) ∧
  decode [0x00000050#32, 0x80000000#32] = .ok (.mmioReadGpioPadDir0, []) ∧
  decode [0x00000051#32, 0x80000048#32, 0x00000001#32] = .ok (.mmioWriteGpioDataSet0 1, []) ∧
  decode [0x00000050#32, 0x8000B018#32] = .ok (.mmioReadUbrcnt1, []) ∧
  decode [0x00000050#32, 0x00400000#32] = .ok (.busRead 0x00400000, [])

/-- 20 R81, 30 R117: the windows, and every aligned address in one has its register. -/
def Obligations.EveryAlignedAddressIsMapped : Prop :=
  ∀ a : Word,
    (inWindow a = true ↔ (0x80000000 ≤ a.toNat ∧ a.toNat < 0x80000068) ∨
      (0x80005000 ≤ a.toNat ∧ a.toNat < 0x8000501C) ∨ (0x8000B000 ≤ a.toNat ∧ a.toNat < 0x8000B01C)) ∧
    (inWindow a = true → a.toNat % 4 = 0 → ∃ r, regAt a = some r ∧ r.addr = a) ∧
    (∀ r, regAt a = some r → inWindow a = true ∧ a.toNat % 4 = 0)

/-! ### Reset and launch -/

/-- 10 R50 to R53, R56 to R58: the state at launch, whatever the open parameters. -/
def Obligations.LaunchState : Prop :=
  ∀ (p : Params) (rp : ResetParams) (numCb numSrc : Nat) (ram : Mem),
    let s := State.launch p rp numCb numSrc ram
    s.gpio = rp.gpio ∧
    (∀ i : Uid, (s.uart.get i).ucon = ⟨false, false, false, false, false, false, false, false⟩) ∧
    (∀ i : Uid, (s.uart.get i).txfifo = [] ∧ (s.uart.get i).rxfifo = [] ∧
      (s.uart.get i).err = ⟨false, false, false, false, false, false⟩ ∧
      (s.uart.get i).txThr = 0 ∧ (s.uart.get i).rxThr = 0 ∧
      (s.uart.get i).ubrInc = rp.ubrcnt.extractLsb' 16 16 ∧ (s.uart.get i).ubrMod = rp.ubrcnt.extractLsb' 0 16) ∧
    (∀ i : Uid, (s.uart.get i).ustate = .uninitialized ∧ (s.uart.get i).rxCb = 0 ∧ (s.uart.get i).txCb = 0) ∧
    (s.cb.length = numCb ∧ ∀ b ∈ s.cb, b.valid = false) ∧
    (s.cpu.i = true ∧ s.cpu.f = true ∧ s.cpu.handlers = rp.handlers ∧ s.mode = p.fgMode) ∧
    (s.itc.length = numSrc ∧ ∀ e ∈ s.itc, e.enabled = false ∧ e.prio = .normal ∧ e.handler = none) ∧
    (s.lastError = .none ∧ s.faults = [] ∧ s.refusals = [] ∧ s.history = [] ∧ s.ctx = .fg ∧
      s.fselPending = none) ∧
    (s.cur.pc = 0 ∧ s.cur.ret = none ∧ s.cur.out = none ∧ s.cur.todo = []) ∧
    s.mem = ram

/-- 10 R25, R27, R33, 44 R301, 60 R430, 20 R82: the invariants hold at launch, and at reset. -/
def Obligations.InvariantsAtLaunch : Prop :=
  (∀ (p : Params) (rp : ResetParams) (numCb numSrc : Nat) (ram : Mem),
    (Mem.wf ram = true ∧ ∀ c ∈ ram, inRam c.1 = true) →
      let s := State.launch p rp numCb numSrc ram
      MemInv s ∧ BuffersInv s ∧ FifoInv s ∧ UartFlagsInv s ∧ ContextInv s ∧ PriorityInv s) ∧
  (MemInv State.reset ∧ BuffersInv State.reset ∧ FifoInv State.reset ∧ UartFlagsInv State.reset ∧
    ContextInv State.reset ∧ PriorityInv State.reset)

/-! ### The step -/

/-- 10 R21, 30 R101, 60 R412, R413: the running foreground executes the command its pc designates, and a fault or a
refusal is recorded. -/
def Obligations.StepRunsForegroundCommand : Prop :=
  ∀ (s : State) (n : Nat) (ts : List Turn) (i : Instr) (rest : List Word),
    Running s → s.sched = .run n :: ts → s.ctx = .fg →
    decode (s.params.program.drop s.cur.pc) = .ok (i, rest) →
    let s' := { s with sched := ts, slice := n }
    (∀ t, exec i s' = .next t → step s = .next t) ∧
    (∀ k, exec i s' = .fault k → k ≠ .noStep → k ≠ .runEnded →
      step s = .next { s' with faults := [k], history := s.history ++ [.fault k] }) ∧
    (exec i s' = .fault .noStep → step s = .fault .noStep) ∧
    (∀ r, exec i s' = .refused r → step s = .next { s' with refusals := [r], history := s.history ++ [.refused r] })

/-- 45 R350: a callback program's command is decoded and executed as the foreground's is. -/
def Obligations.StepRunsCallbackCommand : Prop :=
  ∀ (s : State) (n : Nat) (ts : List Turn) (i : Instr) (rest : List Word) (src : Nat) (h : Word) (p : List Word),
    Running s → s.sched = .run n :: ts → s.ctx = .isr src → callbackOf s.cur.todo = some h →
    s.params.callbacks.find? (fun c => c.1 == h) = some (h, p) → decode (p.drop s.cur.pc) = .ok (i, rest) →
    let s' := { s with sched := ts, slice := n }
    (∀ t, exec i s' = .next t → step s = .next t) ∧
    (∀ k, exec i s' = .fault k → k ≠ .noStep → k ≠ .runEnded →
      step s = .next { s' with faults := [k], history := s.history ++ [.fault k] }) ∧
    (exec i s' = .fault .noStep → step s = .fault .noStep) ∧
    (∀ r, exec i s' = .refused r → step s = .next { s' with refusals := [r], history := s.history ++ [.refused r] })

/-- 30 R101, 60 R413, 10 R38: words that are no command are refused and recorded, and the end of the program has no
step. -/
def Obligations.StepWithoutCommand : Prop :=
  ∀ (s : State) (n : Nat) (ts : List Turn),
    Running s → s.sched = .run n :: ts → s.ctx = .fg → s.cur.todo = [] →
    (s.cur.pc = s.params.program.length → step s = .fault .runEnded) ∧
    (s.cur.pc ≠ s.params.program.length →
      ∀ er ∈ [(DecodeError.reservedBits, Refusal.reservedBits), (.illegalOp, .illegalOp),
          (.truncatedCommand, .truncatedCommand)],
        decode (s.params.program.drop s.cur.pc) = .error er.1 →
        step s = .next { s with
          sched := ts, slice := n, refusals := [er.2], history := s.history ++ [.refused er.2] })

/-- 60 R412, R413: after a fault or a refusal no program, core or ISR step is enabled. -/
def Obligations.NoProgramStepAfterAStop : Prop :=
  ∀ (s : State) (turn : Turn) (ts : List Turn),
    launchRefused s = false → s.sched = turn :: ts →
    ((∃ n, turn = .run n) ∨ (∃ src, turn = .core src)) →
    (∀ k ks, s.faults = k :: ks → step s = .fault k) ∧
    (∀ r rs, s.faults = [] → s.refusals = r :: rs → step s = .refused r)

/-- 70 R451: a launch whose parameters break a constraint is refused before its first step. -/
def Obligations.BadParametersAreRefused : Prop :=
  ∀ s : State, s.refusals = [] →
    (s.params.coreClockHz / 16 = 0 ∨ s.cb.length < 4 ∨
      (∃ i : Uid, s.itc.length ≤ s.params.uartIrqSrc.get i) ∨
      s.params.uartIrqSrc.at0 = s.params.uartIrqSrc.at1 ∨
      s.params.txFifoDepth < 31 ∨ 63 < s.params.txFifoDepth ∨
      s.params.rxFifoDepth < 1 ∨ 63 < s.params.rxFifoDepth ∨
      (∃ p, p ∈ s.params.uartPins.at0.toList ∧ p ∈ s.params.uartPins.at1.toList)) →
    step s = .next { s with
      refusals := [.parameterConstraint], history := s.history ++ [.refused .parameterConstraint] }

/-- 44 R298 to R300: the line agents, which move in every state. That they move after a refusal as after a fault (log
30), that the schedule's turn names the agent (log 3), and that a turn which is not enabled changes nothing but the
schedule (log 26) are the model's. -/
def Obligations.LineAgentSteps : Prop :=
  ∀ (s : State) (ts : List Turn) (i : Uid), launchRefused s = false →
    (s.sched = .txs i :: ts →
      (∀ b rest, (s.uart.get i).ucon.txe = true → (s.uart.get i).txfifo = b :: rest →
        step s = .next { s with
          sched := ts, uart := s.uart.set i { s.uart.get i with txfifo := rest }
          history := s.history ++ [.wireTx i b] }) ∧
      ((s.uart.get i).ucon.txe = false ∨ (s.uart.get i).txfifo = [] → step s = .next { s with sched := ts })) ∧
    (∀ b, s.sched = .rxl i b :: ts →
      ((s.uart.get i).ucon.rxe = true → (s.uart.get i).rxfifo.length < s.params.rxFifoDepth →
        step s = .next { s with
          sched := ts, uart := s.uart.set i { s.uart.get i with rxfifo := (s.uart.get i).rxfifo ++ [b] }
          history := s.history ++ [.wireRx i b] }) ∧
      ((s.uart.get i).ucon.rxe = true → s.params.rxFifoDepth ≤ (s.uart.get i).rxfifo.length →
        step s = .next { s with
          sched := ts, uart := s.uart.set i { s.uart.get i with err := { (s.uart.get i).err with roe := true } }
          history := s.history ++ [.wireRxLost i b] }) ∧
      ((s.uart.get i).ucon.rxe = false → step s = .next { s with sched := ts })) ∧
    (∀ f : LineErrors, s.sched = .lerr i f :: ts →
      ((s.uart.get i).ucon.rxe = true → (f.se = true ∨ f.pe = true ∨ f.fe = true) →
        step s = .next { s with
          sched := ts
          uart := s.uart.set i { s.uart.get i with
            err := { (s.uart.get i).err with
              se := (s.uart.get i).err.se || f.se, pe := (s.uart.get i).err.pe || f.pe,
              fe := (s.uart.get i).err.fe || f.fe } }
          history := s.history ++ [.lineError i f] }) ∧
      ((s.uart.get i).ucon.rxe = false ∨ (f.se = false ∧ f.pe = false ∧ f.fe = false) →
        step s = .next { s with sched := ts }))

/-! ### Registers -/

/-- 40 R142, R146, R148, R150, R152, R154, R165: the stored registers; R156, R158, R160, R162: a read of a write port
answers a free value and changes nothing. -/
def Obligations.GpioRegisterReads : Prop :=
  ∀ s : State, Ready s →
    ReadsAs .mmioReadGpioPadDir0 s s.gpio.dir.at0 s ∧ ReadsAs .mmioReadGpioPadDir1 s s.gpio.dir.at1 s ∧
    ReadsAs .mmioReadGpioPadPuEn0 s s.gpio.puEn.at0 s ∧ ReadsAs .mmioReadGpioPadPuEn1 s s.gpio.puEn.at1 s ∧
    ReadsAs .mmioReadGpioFuncSel0 s s.gpio.funcSel.at0 s ∧ ReadsAs .mmioReadGpioFuncSel1 s s.gpio.funcSel.at1 s ∧
    ReadsAs .mmioReadGpioFuncSel2 s s.gpio.funcSel.at2 s ∧ ReadsAs .mmioReadGpioFuncSel3 s s.gpio.funcSel.at3 s ∧
    ReadsAs .mmioReadGpioDataSel0 s s.gpio.dataSel.at0 s ∧ ReadsAs .mmioReadGpioDataSel1 s s.gpio.dataSel.at1 s ∧
    ReadsAs .mmioReadGpioPadPuSel0 s s.gpio.puSel.at0 s ∧ ReadsAs .mmioReadGpioPadPuSel1 s s.gpio.puSel.at1 s ∧
    ReadsAs .mmioReadGpioPadHystEn0 s s.gpio.hystEn.at0 s ∧ ReadsAs .mmioReadGpioPadHystEn1 s s.gpio.hystEn.at1 s ∧
    ReadsAs .mmioReadGpioPadKeep0 s s.gpio.keep.at0 s ∧ ReadsAs .mmioReadGpioPadKeep1 s s.gpio.keep.at1 s ∧
    ReadsAs .mmioReadGpioDataSet0 s (Config.freeWord s.draws) { s with draws := s.draws + 1 } ∧
    ReadsAs .mmioReadGpioDataSet1 s (Config.freeWord s.draws) { s with draws := s.draws + 1 } ∧
    ReadsAs .mmioReadGpioDataReset0 s (Config.freeWord s.draws) { s with draws := s.draws + 1 } ∧
    ReadsAs .mmioReadGpioDataReset1 s (Config.freeWord s.draws) { s with draws := s.draws + 1 } ∧
    ReadsAs .mmioReadGpioPadDirSet0 s (Config.freeWord s.draws) { s with draws := s.draws + 1 } ∧
    ReadsAs .mmioReadGpioPadDirSet1 s (Config.freeWord s.draws) { s with draws := s.draws + 1 } ∧
    ReadsAs .mmioReadGpioPadDirReset0 s (Config.freeWord s.draws) { s with draws := s.draws + 1 } ∧
    ReadsAs .mmioReadGpioPadDirReset1 s (Config.freeWord s.draws) { s with draws := s.draws + 1 }

/-- 40 R143, R145, R149, R151, R153, R155, R166: the stored registers; R157, R159, R161, R163: the set and reset
registers. -/
def Obligations.GpioRegisterWrites : Prop :=
  ∀ (s : State) (v : Word), Ready s →
    WritesAs (.mmioWriteGpioPadDir0 v) s { s with gpio.dir.at0 := v } ∧
    WritesAs (.mmioWriteGpioPadDir1 v) s { s with gpio.dir.at1 := v } ∧
    WritesAs (.mmioWriteGpioData0 v) s { s with gpio.data.at0 := v } ∧
    WritesAs (.mmioWriteGpioData1 v) s { s with gpio.data.at1 := v } ∧
    WritesAs (.mmioWriteGpioPadPuEn0 v) s { s with gpio.puEn.at0 := v } ∧
    WritesAs (.mmioWriteGpioPadPuEn1 v) s { s with gpio.puEn.at1 := v } ∧
    WritesAs (.mmioWriteGpioDataSel0 v) s { s with gpio.dataSel.at0 := v } ∧
    WritesAs (.mmioWriteGpioDataSel1 v) s { s with gpio.dataSel.at1 := v } ∧
    WritesAs (.mmioWriteGpioPadPuSel0 v) s { s with gpio.puSel.at0 := v } ∧
    WritesAs (.mmioWriteGpioPadPuSel1 v) s { s with gpio.puSel.at1 := v } ∧
    WritesAs (.mmioWriteGpioPadHystEn0 v) s { s with gpio.hystEn.at0 := v } ∧
    WritesAs (.mmioWriteGpioPadHystEn1 v) s { s with gpio.hystEn.at1 := v } ∧
    WritesAs (.mmioWriteGpioPadKeep0 v) s { s with gpio.keep.at0 := v } ∧
    WritesAs (.mmioWriteGpioPadKeep1 v) s { s with gpio.keep.at1 := v } ∧
    WritesAs (.mmioWriteGpioDataSet0 v) s { s with gpio.data.at0 := s.gpio.data.at0 ||| v } ∧
    WritesAs (.mmioWriteGpioDataSet1 v) s { s with gpio.data.at1 := s.gpio.data.at1 ||| v } ∧
    WritesAs (.mmioWriteGpioDataReset0 v) s { s with gpio.data.at0 := s.gpio.data.at0 &&& ~~~v } ∧
    WritesAs (.mmioWriteGpioDataReset1 v) s { s with gpio.data.at1 := s.gpio.data.at1 &&& ~~~v } ∧
    WritesAs (.mmioWriteGpioPadDirSet0 v) s { s with gpio.dir.at0 := s.gpio.dir.at0 ||| v } ∧
    WritesAs (.mmioWriteGpioPadDirSet1 v) s { s with gpio.dir.at1 := s.gpio.dir.at1 ||| v } ∧
    WritesAs (.mmioWriteGpioPadDirReset0 v) s { s with gpio.dir.at0 := s.gpio.dir.at0 &&& ~~~v } ∧
    WritesAs (.mmioWriteGpioPadDirReset1 v) s { s with gpio.dir.at1 := s.gpio.dir.at1 &&& ~~~v }

/-- 40 R144, R164: a data read, bit by bit. -/
def Obligations.GpioDataReads : Prop :=
  ∀ s : State, Ready s →
    (∃ v, IsData s .zero v ∧ ReadsAs .mmioReadGpioData0 s v { s with draws := s.draws + 1 }) ∧
    (∃ v, IsData s .one v ∧ ReadsAs .mmioReadGpioData1 s v { s with draws := s.draws + 1 })

/-- 40 R147: a write of a function-select register, with its two checks in their order. -/
def Obligations.FuncSelWrites : Prop :=
  ∀ (s : State) (v : Word), Ready s →
    ∀ ik ∈ [(Instr.mmioWriteGpioFuncSel0 v, Four.zero), (.mmioWriteGpioFuncSel1 v, .one),
        (.mmioWriteGpioFuncSel2 v, .two), (.mmioWriteGpioFuncSel3 v, .three)],
      (s.mode = .unprivileged → exec ik.1 s = .fault .unprivilegedMmio) ∧
      (s.mode = .privileged → Race s ik.2 → exec ik.1 s = .fault .funcSelRace) ∧
      (s.mode = .privileged → ¬ Race s ik.2 → MuxTooEarly s ik.2 v →
        exec ik.1 s = .fault .pinMuxBeforeEnable) ∧
      (s.mode = .privileged → ¬ Race s ik.2 → ¬ MuxTooEarly s ik.2 v →
        exec ik.1 s = .next (State.returned
          { s with gpio := { s.gpio with funcSel := s.gpio.funcSel.set ik.2 v } } 0x51 2 0))

/-- 44 R280, R286, R288, R290: the UART register reads that change nothing. -/
def Obligations.UartRegisterReads : Prop :=
  ∀ s : State, Ready s →
    ∀ r ∈ [(Two.zero, Instr.mmioReadUcon0, Instr.mmioReadUrxcon0, Instr.mmioReadUtxcon0, Instr.mmioReadUbrcnt0),
        (.one, .mmioReadUcon1, .mmioReadUrxcon1, .mmioReadUtxcon1, .mmioReadUbrcnt1)],
      let u := s.uart.get r.1
      ReadsAs r.2.1 s (uconValue u.ucon) s ∧
      ReadsAs r.2.2.1 s (BitVec.ofNat 32 u.rxfifo.length) s ∧
      ReadsAs r.2.2.2.1 s (BitVec.ofNat 32 (s.params.txFifoDepth - u.txfifo.length)) s ∧
      ReadsAs r.2.2.2.2 s (BitVec.ofNat 32 (u.ubrInc.toNat * 2 ^ 16 + u.ubrMod.toNat)) s

/-- 44 R282, R293, R294: a status read answers the flags and clears the latched ones. -/
def Obligations.StatusReads : Prop :=
  ∀ s : State, Ready s → ∀ r ∈ [(Two.zero, Instr.mmioReadUstat0), (.one, .mmioReadUstat1)],
    ∃ v, IsStatus s r.1 v ∧
      ReadsAs r.2 s v { s with
        uart := s.uart.set r.1 { s.uart.get r.1 with err := ⟨false, false, false, false, false, false⟩ } }

/-- 44 R284, R285: the data register is the head of one FIFO and the tail of the other. -/
def Obligations.DataRegister : Prop :=
  ∀ (s : State) (v : Word), Ready s →
    ∀ r ∈ [(Two.zero, Instr.mmioReadUdata0, Instr.mmioWriteUdata0 v), (.one, .mmioReadUdata1, .mmioWriteUdata1 v)],
      let u := s.uart.get r.1
      (∀ b rest, u.rxfifo = b :: rest →
        ReadsAs r.2.1 s (b.setWidth 32) { s with uart := s.uart.set r.1 { u with rxfifo := rest } }) ∧
      (u.rxfifo = [] → s.mode = .privileged → exec r.2.1 s = .fault .udataReadEmpty) ∧
      (u.txfifo.length < s.params.txFifoDepth →
        WritesAs r.2.2 s { s with
          uart := s.uart.set r.1 { u with txfifo := u.txfifo ++ [v.extractLsb' 0 8] } }) ∧
      (s.params.txFifoDepth ≤ u.txfifo.length → s.mode = .privileged → exec r.2.2 s = .fault .udataWriteFull) ∧
      (s.mode = .unprivileged →
        exec r.2.1 s = .fault .unprivilegedMmio ∧ exec r.2.2 s = .fault .unprivilegedMmio)

/-- 44 R281, R287, R289, R291: the UART register writes. -/
def Obligations.UartRegisterWrites : Prop :=
  ∀ (s : State) (v : Word), Ready s →
    ∀ r ∈ [(Two.zero, Instr.mmioWriteUcon0 v, Instr.mmioWriteUrxcon0 v, Instr.mmioWriteUtxcon0 v,
          Instr.mmioWriteUbrcnt0 v),
        (.one, .mmioWriteUcon1 v, .mmioWriteUrxcon1 v, .mmioWriteUtxcon1 v, .mmioWriteUbrcnt1 v)],
      let u := s.uart.get r.1
      (s.mode = .privileged → v &&& 0xFFFF1FE0#32 ≠ 0 → exec r.2.1 s = .refused .unmodelledField) ∧
      (s.mode = .privileged → v &&& 0xFFFF1FE0#32 = 0 → v.getLsbD 15 = true →
        exec r.2.1 s = .refused .loopbackUnmodelled) ∧
      (s.mode = .unprivileged → exec r.2.1 s = .fault .unprivilegedMmio) ∧
      (v &&& 0xFFFF1FE0#32 = 0 → v.getLsbD 15 = false →
        WritesAs r.2.1 s { s with
          uart := s.uart.set r.1 { u with
            ucon := {
              txe := v.getLsbD 0, rxe := v.getLsbD 1, pen := v.getLsbD 2, ep := v.getLsbD 3, st2 := v.getLsbD 4
              tst := false, mrxr := v.getLsbD 13, mtxr := v.getLsbD 14 } } }) ∧
      WritesAs r.2.2.1 s { s with uart := s.uart.set r.1 { u with rxThr := v.extractLsb' 0 6 } } ∧
      WritesAs r.2.2.2.1 s { s with uart := s.uart.set r.1 { u with txThr := v.extractLsb' 0 6 } } ∧
      WritesAs r.2.2.2.2 s { s with
        uart := s.uart.set r.1 { u with ubrInc := v.extractLsb' 16 16, ubrMod := v.extractLsb' 0 16 } }

/-- 44 R283, R292: the six rows that stop on every path, in each mode. -/
def Obligations.UnmodelledRegistersRefuse : Prop :=
  ∀ (s : State) (v : Word), s.atStart = true →
    (∀ i ∈ [Instr.mmioReadUcts0, .mmioReadUcts1, .mmioWriteUcts0 v, .mmioWriteUcts1 v],
      (s.mode = .privileged → exec i s = .refused .unmodelledRegister) ∧
      (s.mode = .unprivileged → exec i s = .fault .unprivilegedMmio)) ∧
    (∀ i ∈ [Instr.mmioWriteUstat0 v, .mmioWriteUstat1 v],
      (s.mode = .privileged → exec i s = .refused .ustatWrite) ∧
      (s.mode = .unprivileged → exec i s = .fault .unprivilegedMmio))

/-- 40 R140, R141, 20 R83, R85: the checks of a bus access in their order, and the register it reaches. -/
def Obligations.BusAccesses : Prop :=
  ∀ (s : State) (a v : Word), Ready s →
    (inWindow a = false → exec (.busRead a) s = .fault .noStep ∧ exec (.busWrite a v) s = .fault .noStep) ∧
    (inWindow a = true → a.toNat % 4 ≠ 0 →
      exec (.busRead a) s = .fault .badAccessWidth ∧ exec (.busWrite a v) s = .fault .badAccessWidth) ∧
    (inWindow a = true → a.toNat % 4 = 0 → s.mode = .unprivileged →
      exec (.busRead a) s = .fault .unprivilegedMmio ∧ exec (.busWrite a v) s = .fault .unprivilegedMmio) ∧
    (s.mode = .privileged → ∀ r, regAt a = some r →
      exec (.busRead a) s = exec r.readForm s ∧ exec (.busWrite a v) s = exec (r.writeForm v) s) ∧
    (s.mode = .privileged →
      exec (.busRead 0x80000000) s = .next (s.returned 0x50 1 s.gpio.dir.at0) ∧
      exec (.busWrite 0x80000048 v) s =
        .next (State.returned { s with gpio.data.at0 := s.gpio.data.at0 ||| v } 0x51 2 0))

/-- 20 R95, 46 R390, 60 R425: in unprivileged mode an operation that accesses a register or calls the controller faults
at its first access, with nothing done. -/
def Obligations.UnprivilegedOperationsFault : Prop :=
  ∀ (s : State) (n : Port) (i : Uid) (pin : Fin 64) (mask w : Word) (func : BitVec 2) (reg : Word),
    s.atStart = true → s.mode = .unprivileged →
    let port := BitVec.ofNat 32 n.toNat
    let id := BitVec.ofNat 32 i.toNat
    let p := BitVec.ofNat 32 pin.val
    (mask ≠ 0 → exec (.gpioSetPortFunc port (func.setWidth 32) mask) s = .fault .unprivilegedMmio) ∧
    exec (.gpioSetPinFunc p (func.setWidth 32)) s = .fault .unprivilegedMmio ∧
    ((s.uart.get i).ustate = .uninitialized → mask ≠ 0 → baudReg s.params.coreClockHz w = .ok reg →
      exec (.uartInit id w mask) s = .fault .unprivilegedMmio) ∧
    ((s.uart.get i).ustate = .initialized →
      exec (.uartSendByte id w) s = .fault .unprivilegedMmio ∧
      exec (.uartReceiveByte id) s = .fault .unprivilegedMmio ∧
      (mask ≠ 0 → exec (.uartSend id mask w) s = .fault .unprivilegedMmio ∧
        exec (.uartReceive id mask w) s = .fault .unprivilegedMmio)) ∧
    (w.toNat < s.itc.length →
      exec (.itcSetPriority w 0) s = .fault .unprivilegedMmio ∧
      (∀ h : Word, h.toNat ≤ 2 → exec (.itcSetHandler w h) s = .fault .unprivilegedMmio) ∧
      exec (.itcEnableInterrupt w) s = .fault .unprivilegedMmio)

/-! ### GPIO operations -/

/-- 41 R180, R181, R183, R184. -/
def Obligations.GpioPortOperations : Prop :=
  ∀ (s : State) (mask : Word), Ready s →
    (∀ n : Port,
      let port := BitVec.ofNat 32 n.toNat
      let g := s.gpio
      Accesses (.gpioSetPortDir port mask 1) s 0x01 3
        { s with gpio := { g with dir := g.dir.set n (g.dir.get n ||| mask) } } ∧
      Accesses (.gpioSetPortDir port mask 0) s 0x01 3
        { s with gpio := { g with dir := g.dir.set n (g.dir.get n &&& ~~~mask) } } ∧
      Accesses (.gpioSetPort port mask) s 0x03 2
        { s with gpio := { g with data := g.data.set n (g.data.get n ||| mask) } } ∧
      Accesses (.gpioClearPort port mask) s 0x04 2
        { s with gpio := { g with data := g.data.set n (g.data.get n &&& ~~~mask) } }) ∧
    (∀ port dir : Word,
      (1 < port.toNat ∨ 1 < dir.toNat → exec (.gpioSetPortDir port mask dir) s = .next (s.failed 0x01 3)) ∧
      (1 < port.toNat → exec (.gpioSetPort port mask) s = .next (s.failed 0x03 2) ∧
        exec (.gpioClearPort port mask) s = .next (s.failed 0x04 2)))

/-- 41 R180, R182, R185, R186. -/
def Obligations.GpioPinOperations : Prop :=
  ∀ s : State, Ready s →
    (∀ pin : Fin 64,
      let p := BitVec.ofNat 32 pin.val
      let n : Port := if pin.val < 32 then .zero else .one
      let m := 1#32 <<< (pin.val % 32)
      let g := s.gpio
      Accesses (.gpioSetPinDir p 1) s 0x02 2 { s with gpio := { g with dir := g.dir.set n (g.dir.get n ||| m) } } ∧
      Accesses (.gpioSetPinDir p 0) s 0x02 2 { s with gpio := { g with dir := g.dir.set n (g.dir.get n &&& ~~~m) } } ∧
      Accesses (.gpioSetPin p) s 0x05 1 { s with gpio := { g with data := g.data.set n (g.data.get n ||| m) } } ∧
      Accesses (.gpioClearPin p) s 0x06 1
        { s with gpio := { g with data := g.data.set n (g.data.get n &&& ~~~m) } }) ∧
    (∀ pin dir : Word,
      (63 < pin.toNat ∨ 1 < dir.toNat → exec (.gpioSetPinDir pin dir) s = .next (s.failed 0x02 2)) ∧
      (63 < pin.toNat → exec (.gpioSetPin pin) s = .next (s.failed 0x05 1) ∧
        exec (.gpioClearPin pin) s = .next (s.failed 0x06 1)))

/-- 41 R187, R188: the port or the pin's bit in `out`. -/
def Obligations.GpioReads : Prop :=
  ∀ s : State, Ready s →
    (∀ n : Port, ∃ v, IsData s n v ∧
      (s.mode = .privileged →
        exec (.gpioGetPort (BitVec.ofNat 32 n.toNat)) s =
          .next (State.returnedOut { s with draws := s.draws + 1 } 0x07 1 0 v)) ∧
      (s.mode = .unprivileged → exec (.gpioGetPort (BitVec.ofNat 32 n.toNat)) s = .fault .unprivilegedMmio)) ∧
    (∀ pin : Fin 64, ∃ v, IsData s (if pin.val < 32 then .zero else .one) v ∧
      (s.mode = .privileged →
        exec (.gpioGetPin (BitVec.ofNat 32 pin.val)) s =
          .next (State.returnedOut { s with draws := s.draws + 1 } 0x08 1 0
            (if v.getLsbD (pin.val % 32) = true then 1 else 0))) ∧
      (s.mode = .unprivileged → exec (.gpioGetPin (BitVec.ofNat 32 pin.val)) s = .fault .unprivilegedMmio)) ∧
    (∀ w : Word,
      (1 < w.toNat → exec (.gpioGetPort w) s = .next (s.failed 0x07 1)) ∧
      (63 < w.toNat → exec (.gpioGetPin w) s = .next (s.failed 0x08 1)))

/-- 41 R190: the read-modify-write of one pin's function, and what it meets at its second access. -/
def Obligations.GpioSetPinFunction : Prop :=
  ∀ (s : State), s.atStart = true → 2 ≤ s.slice →
    (∀ (pin : Fin 64) (k : Four) (func : BitVec 2), k.toNat = pin.val / 16 →
      let i := Instr.gpioSetPinFunc (BitVec.ofNat 32 pin.val) (func.setWidth 32)
      let old := s.gpio.funcSel.get k
      let new := (old &&& ~~~(3#32 <<< (2 * (pin.val % 16)))) ||| (func.setWidth 32 <<< (2 * (pin.val % 16)))
      (s.mode = .privileged → ¬ Race s k → ¬ MuxTooEarly s k new →
        exec i s = .next (State.returned
          { s with
            gpio := { s.gpio with funcSel := s.gpio.funcSel.set k new }
            fselPending := if s.ctx = .fg then none else s.fselPending } 0x0A 2 0)) ∧
      (s.mode = .privileged → Race s k → ∃ t, exec i s = .next t ∧ exec i t = .fault .funcSelRace) ∧
      (s.mode = .privileged → ¬ Race s k → MuxTooEarly s k new →
        ∃ t, exec i s = .next t ∧ exec i t = .fault .pinMuxBeforeEnable) ∧
      (s.mode = .unprivileged → exec i s = .fault .unprivilegedMmio)) ∧
    (∀ pin func : Word, 63 < pin.toNat ∨ 3 < func.toNat →
      exec (.gpioSetPinFunc pin func) s = .next (s.failed 0x0A 2))

/-- 41 R189: every pin of the mask, and no other, gets the function, and what the operation meets at the write of each
of the two registers, the low one first; a fault at the second leaves the first written (60 R411). -/
def Obligations.GpioSetPortFunction : Prop :=
  ∀ (s : State) (mask : Word), s.atStart = true → 4 ≤ s.slice →
    (∀ (n : Port) (func : BitVec 2), mask ≠ 0 → s.mode = .privileged →
      (∀ k : Four, k.toNat / 2 = n.toNat → Touches mask k → ¬ Race s k) →
      (∀ (i : Uid), ∀ p ∈ (s.params.uartPins.get i).toList,
        p.val / 32 = n.toNat → mask.getLsbD (p.val % 32) = true → func = 1 → pinFunc s.gpio p.val ≠ 1 →
          (s.uart.get i).ucon.txe = true ∧ (s.uart.get i).ucon.rxe = true) →
      ∃ q : Quad Word,
        exec (.gpioSetPortFunc (BitVec.ofNat 32 n.toNat) (func.setWidth 32) mask) s =
          .next (State.returned
            { s with
              gpio := { s.gpio with funcSel := q }
              fselPending := if s.ctx = .fg then none else s.fselPending } 0x09 3 0) ∧
        ∀ p, p < 64 → pinFunc { s.gpio with funcSel := q } p =
          if p / 32 = n.toNat ∧ mask.getLsbD (p % 32) = true then func else pinFunc s.gpio p) ∧
    (∀ (n : Port) (func : BitVec 2) (lo hi : Four) (wlo whi : Word),
      lo.toNat = 2 * n.toNat → hi.toNat = 2 * n.toNat + 1 →
      IsNewFunctions s lo func mask wlo → IsNewFunctions s hi func mask whi → s.mode = .privileged →
      let i := Instr.gpioSetPortFunc (BitVec.ofNat 32 n.toNat) (func.setWidth 32) mask
      (Touches mask lo →
        (Race s lo → ∃ t, exec i s = .next t ∧ t.gpio = s.gpio ∧ exec i t = .fault .funcSelRace) ∧
        (¬ Race s lo → MuxTooEarly s lo wlo →
          ∃ t, exec i s = .next t ∧ t.gpio = s.gpio ∧ exec i t = .fault .pinMuxBeforeEnable)) ∧
      (Touches mask hi → (Touches mask lo → ¬ Race s lo ∧ ¬ MuxTooEarly s lo wlo) →
        let g := { s.gpio with funcSel := s.gpio.funcSel.set lo wlo }
        (Race s hi → ∃ t, exec i s = .next t ∧ t.gpio = g ∧ exec i t = .fault .funcSelRace) ∧
        (¬ Race s hi → MuxTooEarly s hi whi →
          ∃ t, exec i s = .next t ∧ t.gpio = g ∧ exec i t = .fault .pinMuxBeforeEnable))) ∧
    (∀ (n : Port) (func : BitVec 2),
      exec (.gpioSetPortFunc (BitVec.ofNat 32 n.toNat) (func.setWidth 32) 0) s = .next (s.returned 0x09 3 0)) ∧
    (∀ port func : Word, 1 < port.toNat ∨ 3 < func.toNat →
      exec (.gpioSetPortFunc port func mask) s = .next (s.failed 0x09 3))

/-! ### Critical sections -/

/-- 42 R220 to R226, R229: the mask operations in both modes. -/
def Obligations.InterruptMasks : Prop :=
  ∀ (s : State) (saved : Word), Ready s →
    (s.mode = .privileged →
      exec .csDisableInterrupts s =
        .next (State.returned { s with cpu.i := true, cpu.f := true } 0x10 0 (maskWord s.cpu.i s.cpu.f)) ∧
      exec (.csRestoreInterrupts saved) s =
        .next (State.returned { s with cpu.i := saved.getLsbD 7, cpu.f := saved.getLsbD 6 } 0x11 1 0) ∧
      exec .csDisableIrq s = .next (State.returned { s with cpu.i := true } 0x12 0 (maskWord s.cpu.i false)) ∧
      exec (.csRestoreIrq saved) s = .next (State.returned { s with cpu.i := saved.getLsbD 7 } 0x13 1 0) ∧
      exec .csDisableFiq s = .next (State.returned { s with cpu.f := true } 0x14 0 (maskWord false s.cpu.f)) ∧
      exec (.csRestoreFiq saved) s = .next (State.returned { s with cpu.f := saved.getLsbD 6 } 0x15 1 0)) ∧
    (s.mode = .unprivileged →
      exec .csDisableInterrupts s = .next (s.returned 0x10 0 (maskWord s.cpu.i s.cpu.f)) ∧
      exec (.csRestoreInterrupts saved) s = .next (s.returned 0x11 1 0) ∧
      exec .csDisableIrq s = .next (s.returned 0x12 0 (maskWord s.cpu.i false)) ∧
      exec (.csRestoreIrq saved) s = .next (s.returned 0x13 1 0) ∧
      exec .csDisableFiq s = .next (s.returned 0x14 0 (maskWord false s.cpu.f)) ∧
      exec (.csRestoreFiq saved) s = .next (s.returned 0x15 1 0))

/-- 42 R227, R228: the handler table, in every mode. -/
def Obligations.ExceptionHandlers : Prop :=
  ∀ (s : State) (kind v : Word), Ready s →
    (exec (.csSetHandler 0 v) s = .next (State.returned { s with cpu.handlers.reset := v } 0x16 2 0) ∧
      exec (.csSetHandler 1 v) s = .next (State.returned { s with cpu.handlers.undefinedInstruction := v } 0x16 2 0) ∧
      exec (.csSetHandler 2 v) s = .next (State.returned { s with cpu.handlers.softwareInterrupt := v } 0x16 2 0) ∧
      exec (.csSetHandler 3 v) s = .next (State.returned { s with cpu.handlers.prefetchAbort := v } 0x16 2 0) ∧
      exec (.csSetHandler 4 v) s = .next (State.returned { s with cpu.handlers.dataAbort := v } 0x16 2 0) ∧
      exec (.csSetHandler 6 v) s = .next (State.returned { s with cpu.handlers.irq := v } 0x16 2 0) ∧
      exec (.csSetHandler 7 v) s = .next (State.returned { s with cpu.handlers.fiq := v } 0x16 2 0)) ∧
    (exec (.csGetHandler 0) s = .next (s.returned 0x17 1 s.cpu.handlers.reset) ∧
      exec (.csGetHandler 1) s = .next (s.returned 0x17 1 s.cpu.handlers.undefinedInstruction) ∧
      exec (.csGetHandler 2) s = .next (s.returned 0x17 1 s.cpu.handlers.softwareInterrupt) ∧
      exec (.csGetHandler 3) s = .next (s.returned 0x17 1 s.cpu.handlers.prefetchAbort) ∧
      exec (.csGetHandler 4) s = .next (s.returned 0x17 1 s.cpu.handlers.dataAbort) ∧
      exec (.csGetHandler 6) s = .next (s.returned 0x17 1 s.cpu.handlers.irq) ∧
      exec (.csGetHandler 7) s = .next (s.returned 0x17 1 s.cpu.handlers.fiq)) ∧
    (kind.toNat = 5 ∨ 7 < kind.toNat →
      exec (.csSetHandler kind v) s = .refused .badExceptionKind ∧
      exec (.csGetHandler kind) s = .refused .badExceptionKind)

/-- 42 R230, 60 R420: no step enters an ISR from a foreground that masks interrupts. -/
def Obligations.MaskedForegroundIsNotInterrupted : Prop :=
  ∀ s t : State, s.ctx = .fg → s.cpu.i = true → step s = .next t → t.ctx = .fg ∧ t.saved = s.saved

/-! ### Circular buffers -/

/-- 43 R252, R257, R260: the checks of `cb.init` in their order, and its effect. -/
def Obligations.BufferInit : Prop :=
  ∀ (s : State) (h storage cap : Word), Ready s →
    (s.cb.length ≤ h.toNat → exec (.cbInit h storage cap) s = .refused .badHandle) ∧
    (h.toNat < s.cb.length →
      (cap = 0 → exec (.cbInit h storage cap) s = .refused .cbCapacityZero) ∧
      (cap ≠ 0 → Violation s h.toNat → exec (.cbInit h storage cap) s = .fault .disciplineViolation) ∧
      (cap ≠ 0 → ¬ Violation s h.toNat →
        exec (.cbInit h storage cap) s = .next (State.returned
          { s with cb := s.cb.set h.toNat ⟨true, cap.toNat, storage, 0, 0, 0, []⟩ } 0x20 3 0)))

/-- 43 R251, R253, R254, R257, R260: the two queries. -/
def Obligations.BufferQueries : Prop :=
  ∀ (s : State) (h : Word), Ready s →
    (s.cb.length ≤ h.toNat →
      exec (.cbIsEmpty h) s = .refused .badHandle ∧ exec (.cbIsFull h) s = .refused .badHandle) ∧
    (∀ b, s.cb[h.toNat]? = some b →
      (b.valid = false →
        exec (.cbIsEmpty h) s = .fault .cbUninitialized ∧ exec (.cbIsFull h) s = .fault .cbUninitialized) ∧
      (b.valid = true → Violation s h.toNat →
        exec (.cbIsEmpty h) s = .fault .disciplineViolation ∧ exec (.cbIsFull h) s = .fault .disciplineViolation) ∧
      (b.valid = true → ¬ Violation s h.toNat →
        exec (.cbIsEmpty h) s = .next (s.returned 0x21 1 (if b.count = 0 then 1 else 0)) ∧
        exec (.cbIsFull h) s = .next (s.returned 0x22 1 (if b.count = b.cap then 1 else 0))))

/-- 43 R255, R257, R260: `cb.write`. -/
def Obligations.BufferWrite : Prop :=
  ∀ (s : State) (h byte : Word), Ready s →
    (s.cb.length ≤ h.toNat → exec (.cbWrite h byte) s = .refused .badHandle) ∧
    (∀ b, s.cb[h.toNat]? = some b →
      (b.valid = false → exec (.cbWrite h byte) s = .fault .cbUninitialized) ∧
      (b.valid = true → Violation s h.toNat → exec (.cbWrite h byte) s = .fault .disciplineViolation) ∧
      (b.valid = true → ¬ Violation s h.toNat → b.count = b.cap →
        exec (.cbWrite h byte) s = .fault .cbWriteFull) ∧
      (b.valid = true → ¬ Violation s h.toNat → b.count ≠ b.cap →
        exec (.cbWrite h byte) s = .next (State.returned
          { s with cb := s.cb.set h.toNat { b with
              storage := b.storage.set b.w (byte.extractLsb' 0 8), w := (b.w + 1) % b.cap, count := b.count + 1 } }
          0x23 2 0)))

/-- 43 R256, R257, R260: `cb.read`. -/
def Obligations.BufferRead : Prop :=
  ∀ (s : State) (h : Word), Ready s →
    (s.cb.length ≤ h.toNat → exec (.cbRead h) s = .refused .badHandle) ∧
    (∀ b, s.cb[h.toNat]? = some b →
      (b.valid = false → exec (.cbRead h) s = .fault .cbUninitialized) ∧
      (b.valid = true → Violation s h.toNat → exec (.cbRead h) s = .fault .disciplineViolation) ∧
      (b.valid = true → ¬ Violation s h.toNat → b.count = 0 → exec (.cbRead h) s = .fault .cbReadEmpty) ∧
      (b.valid = true → ¬ Violation s h.toNat → b.count ≠ 0 → Cb.Inv b →
        ∃ v, b.storage.get b.r = some v ∧
          exec (.cbRead h) s = .next (State.returned
            { s with cb := s.cb.set h.toNat { b with r := (b.r + 1) % b.cap, count := b.count - 1 } }
            0x24 1 (v.setWidth 32))))

/-- 43 R250, R259: a buffer is a bounded queue of bytes. -/
def Obligations.BufferIsQueue : Prop :=
  ∀ (s : State) (h byte : Word) (b : Cb), Ready s → Usable s h.toNat b →
    b.bytes.length = b.count ∧ b.count ≤ b.cap ∧
    (b.bytes.length < b.cap → ∃ t b', exec (.cbWrite h byte) s = .next t ∧ t.cb[h.toNat]? = some b' ∧
      b'.bytes = b.bytes ++ [byte.extractLsb' 0 8] ∧ b'.cap = b.cap ∧ Usable t h.toNat b') ∧
    (∀ x q, b.bytes = x :: q → ∃ t b', exec (.cbRead h) s = .next t ∧ t.cb[h.toNat]? = some b' ∧
      b'.bytes = q ∧ b'.cap = b.cap ∧ Usable t h.toNat b' ∧ t.cur.ret = some (x.setWidth 32))

/-- 43 R259: bytes written to an empty buffer are read back in order, each once, and the buffer is full exactly after
`cap` writes and empty after as many reads. -/
def Obligations.BufferReturnsBytesInOrder : Prop :=
  ∀ (s : State) (h : Word) (b : Cb) (ws : List Word),
    Ready s → Usable s h.toNat b → b.count = 0 → ws.length ≤ b.cap →
    ∃ t u bt bu,
      execAll (ws.map (fun w => Instr.cbWrite h w)) s = some t ∧
      t.cb[h.toNat]? = some bt ∧ (bt.count = bt.cap ↔ ws.length = b.cap) ∧
      execAll (ws.map (fun _ => Instr.cbRead h)) t = some u ∧
      u.cb[h.toNat]? = some bu ∧ bu.count = 0 ∧
      readResults u.history = readResults s.history ++ ws.map (fun w => some ((w.extractLsb' 0 8).setWidth 32))

/-! ### The UART driver -/

/-- 44 R297: the baud register value, its two faults, and the spec's own examples. -/
def Obligations.BaudRegisterValue : Prop :=
  (∀ (clock : Nat) (baud : Word), 1 ≤ clock / 16 →
    (2 ^ 32 ≤ baud.toNat * 9999 → baudReg clock baud = .fault .baudOverflow) ∧
    (baud.toNat * 9999 < 2 ^ 32 → 0xFFFF < baud.toNat * 9999 / (clock / 16) →
      baudReg clock baud = .fault .baudDivisorRange) ∧
    (baud.toNat * 9999 < 2 ^ 32 → baud.toNat * 9999 / (clock / 16) ≤ 0xFFFF →
      ∃ v, baudReg clock baud = .ok v ∧
        v.toNat = baud.toNat * 9999 / (clock / 16) * 2 ^ 16 + 9999)) ∧
  (baudReg 24000000 9600 = .ok 0x003F270F ∧ baudReg 24000000 19200 = .ok 0x007F270F ∧
    baudReg 24000000 38400 = .ok 0x00FF270F ∧ baudReg 24000000 57600 = .ok 0x017F270F ∧
    baudReg 24000000 115200 = .ok 0x02FF270F ∧ baudReg 24000000 230400 = .ok 0x05FF270F ∧
    baudReg 24000000 460800 = .fault .baudOverflow ∧ baudReg 24000000 0 = .ok 0x0000270F)

/-- 60 R410, R411, 45 R342 to R346: the driver's error returns, which have no other effect. -/
def Obligations.UartErrorReturns : Prop :=
  ∀ (s : State) (id a b : Word), Ready s →
    (1 < id.toNat ∨ b = 0 → exec (.uartInit id a b) s = .next (s.failed 0x30 3)) ∧
    (1 < id.toNat → exec (.uartSendByte id a) s = .next (s.failed 0x31 2)) ∧
    (1 < id.toNat → exec (.uartReceiveByte id) s = .next (s.failed 0x32 1)) ∧
    (1 < id.toNat ∨ a = 0 → exec (.uartSend id a b) s = .next (s.failed 0x33 3)) ∧
    (1 < id.toNat ∨ a = 0 → exec (.uartReceive id a b) s = .next (s.failed 0x34 3))

/-- 45 R352, R342: transfers before `uart.init`, and `uart.init` after it. -/
def Obligations.UartUseBeforeInit : Prop :=
  ∀ (s : State) (i : Uid) (a b : Word), s.atStart = true →
    let id := BitVec.ofNat 32 i.toNat
    ((s.uart.get i).ustate = .uninitialized →
      exec (.uartSendByte id a) s = .fault .uartNotInitialized ∧
      exec (.uartReceiveByte id) s = .fault .uartNotInitialized ∧
      (a ≠ 0 → exec (.uartSend id a b) s = .fault .uartNotInitialized ∧
        exec (.uartReceive id a b) s = .fault .uartNotInitialized) ∧
      (b ≠ 0 → ∀ k, baudReg s.params.coreClockHz a = .fault k → exec (.uartInit id a b) s = .fault k)) ∧
    ((s.uart.get i).ustate = .initialized → b ≠ 0 → exec (.uartInit id a b) s = .fault .uartReinit)

/-- 45 R340, R342: an undisturbed `uart.init` and everything it leaves. -/
def Obligations.UartInitialisation : Prop :=
  ∀ (s : State) (i : Uid) (baud name reg : Word) (e : ItcEntry),
    s.atStart = true → 26 ≤ s.slice → s.mode = .privileged → launchOk s = true → (∀ k, ¬ Race s k) →
    (s.uart.get i).ustate = .uninitialized → name ≠ 0 → baudReg s.params.coreClockHz baud = .ok reg →
    (s.params.uartPins.get i).toList.Nodup → s.itc[s.params.uartIrqSrc.get i]? = some e →
    let pins := s.params.uartPins.get i
    let fresh := fun base : Word => (⟨true, 256, base, 0, 0, 0, []⟩ : Cb)
    ∃ (d : Pair Word) (q : Quad Word),
      exec (.uartInit (BitVec.ofNat 32 i.toNat) baud name) s = .next (State.returned
        { s with
          gpio := { s.gpio with dir := d, funcSel := q }
          uart := s.uart.set i {
            ucon := {
              txe := true, rxe := true, pen := false, ep := false, st2 := false, tst := false
              mrxr := false, mtxr := true }
            err := (s.uart.get i).err
            txfifo := (s.uart.get i).txfifo
            rxfifo := (s.uart.get i).rxfifo
            txThr := 31
            rxThr := 1
            ubrInc := reg.extractLsb' 16 16
            ubrMod := reg.extractLsb' 0 16
            ustate := .initialized
            rxCb := 0
            txCb := 0 }
          cb := (s.cb.set (rxHandle i) (fresh (Config.freeWord s.draws))).set (txHandle i)
            (fresh (Config.freeWord (s.draws + 1)))
          itc := s.itc.set (s.params.uartIrqSrc.get i) { enabled := true, prio := .normal, handler := some i }
          fselPending := if s.ctx = .fg then none else s.fselPending
          draws := s.draws + 2
          history := s.history ++ [.registered i name] } 0x30 3 0) ∧
      ∀ p : Pin,
        (pinFunc { s.gpio with dir := d, funcSel := q } p.val =
          if p ∈ pins.toList then 1 else pinFunc s.gpio p.val) ∧
        (pinOut { s.gpio with dir := d, funcSel := q } p.val =
          if p = pins.tx ∨ p = pins.cts then true else if p = pins.rx ∨ p = pins.rts then false
          else pinOut s.gpio p.val)

/-- 45 R343, 00 R9: an undisturbed blocking send first hands the buffered bytes to the hardware, in order, then its own;
where the FIFO has no room it waits, and goes on when room has come. -/
def Obligations.UartSendByteFlushes : Prop :=
  ∀ (s : State) (i : Uid) (byte : Word),
    let u := s.uart.get i
    let exe := exec (.uartSendByte (BitVec.ofNat 32 i.toNat) byte) s
    let room := s.params.txFifoDepth - u.txfifo.length
    (∀ rx tx : Cb, s.atStart = true → Driver s i rx tx → 4 * tx.count + 10 ≤ s.slice →
      (tx.count < room →
        exe = .next (State.returned
          { s with
            uart := s.uart.set i { u with txfifo := u.txfifo ++ tx.bytes ++ [byte.extractLsb' 0 8] }
            cb := s.cb.set (txHandle i) { tx with r := (tx.r + tx.count) % tx.cap, count := 0 } } 0x31 2 0)) ∧
      (room ≤ tx.count →
        exe = .next
          { s with
            uart := s.uart.set i { u with
              txfifo := u.txfifo ++ tx.bytes.take room, ucon := { u.ucon with mtxr := true } }
            cb := s.cb.set (txHandle i) { tx with r := (tx.r + room) % tx.cap, count := tx.count - room }
            cur := { s.cur with todo := sendLeft i byte u.ucon.mtxr (tx.count - room) ++ s.cur.todo } })) ∧
    (∀ (saved : Bool) (n : Nat) (fs : List Frame), s.cur.todo = sendLeft i byte saved n ++ fs →
      s.mode = .privileged → room = 0 → exe = .next s) ∧
    (∀ (rx tx : Cb) (saved : Bool) (fs : List Frame), s.cur.todo = sendLeft i byte saved tx.count ++ fs →
      Driver s i rx tx → u.ucon.mtxr = true → 4 * tx.count + 10 ≤ s.slice →
      (tx.count < room →
        exe = .next (State.returned
          { s with
            uart := s.uart.set i { u with
              txfifo := u.txfifo ++ tx.bytes ++ [byte.extractLsb' 0 8], ucon := { u.ucon with mtxr := saved } }
            cb := s.cb.set (txHandle i) { tx with r := (tx.r + tx.count) % tx.cap, count := 0 }
            cur := { s.cur with todo := fs } } 0x31 2 0)) ∧
      (0 < room → room ≤ tx.count →
        exe = .next
          { s with
            uart := s.uart.set i { u with txfifo := u.txfifo ++ tx.bytes.take room }
            cb := s.cb.set (txHandle i) { tx with r := (tx.r + room) % tx.cap, count := tx.count - room }
            cur := { s.cur with todo := sendLeft i byte saved (tx.count - room) ++ fs } }))

/-- 45 R344, 00 R9: an undisturbed blocking receive takes the oldest byte, buffered or in the hardware; where there is
none it waits, and goes on when a byte has come. -/
def Obligations.UartReceiveByteTakesOldest : Prop :=
  ∀ (s : State) (i : Uid),
    let u := s.uart.get i
    let id := BitVec.ofNat 32 i.toNat
    (∀ rx tx : Cb, s.atStart = true → Driver s i rx tx → 10 ≤ s.slice →
      (∀ x q, rx.bytes = x :: q →
        exec (.uartReceiveByte id) s = .next (State.returned
          { s with cb := s.cb.set (rxHandle i) { rx with r := (rx.r + 1) % rx.cap, count := rx.count - 1 } }
          0x32 1 (x.setWidth 32))) ∧
      (∀ x q, rx.bytes = [] → u.rxfifo = x :: q →
        exec (.uartReceiveByte id) s = .next (State.returned
          { s with uart := s.uart.set i { u with rxfifo := q } } 0x32 1 (x.setWidth 32))) ∧
      (rx.bytes = [] → u.rxfifo = [] →
        exec (.uartReceiveByte id) s = .next
          { s with
            uart := s.uart.set i { u with ucon := { u.ucon with mrxr := true } }
            cur := { s.cur with todo := .waitRx i :: .recvByteData i u.ucon.mrxr :: s.cur.todo } })) ∧
    (∀ (saved : Bool) (fs : List Frame), s.cur.todo = .waitRx i :: .recvByteData i saved :: fs →
      s.mode = .privileged → u.ucon.tst = false → u.rxfifo.length ≤ 63 → 4 ≤ s.slice →
      (∀ x q, u.rxfifo = x :: q →
        exec (.uartReceiveByte id) s = .next (State.returned
          { s with
            uart := s.uart.set i { u with rxfifo := q, ucon := { u.ucon with mrxr := saved } }
            cur := { s.cur with todo := fs } } 0x32 1 (x.setWidth 32))) ∧
      (u.rxfifo = [] → exec (.uartReceiveByte id) s = .next s))

/-- 45 R345: an undisturbed bulk send enqueues as many bytes as are asked for and fit, and unmasks. It stops at a byte
that it cannot read: a RAM byte that holds no value faults (20 R82), and an address outside RAM has no step (20 R86). -/
def Obligations.UartSendEnqueues : Prop :=
  ∀ (s : State) (i : Uid) (buf count : Word) (rx tx : Cb) (bs : List Byte),
    s.atStart = true → Driver s i rx tx → buf ≠ 0 →
    (∀ j b, bs[j]? = some b → inRam (buf + BitVec.ofNat 32 j).toNat = true ∧
      s.mem.get (buf + BitVec.ofNat 32 j).toNat = some b) →
    3 * bs.length + 8 ≤ s.slice →
    let u := s.uart.get i
    let send := Instr.uartSend (BitVec.ofNat 32 i.toNat) buf count
    let fits := min count.toNat (tx.cap - tx.count)
    (bs.length = fits →
      ∃ tx',
        tx'.bytes = tx.bytes ++ bs ∧ tx'.valid = true ∧ tx'.cap = tx.cap ∧ tx'.base = tx.base ∧ Cb.Inv tx' ∧
        exec send s = .next (State.returned
          { s with
            uart := s.uart.set i { u with ucon := { u.ucon with mtxr := false } }
            cb := s.cb.set (txHandle i) tx' } 0x33 3 (BitVec.ofNat 32 bs.length))) ∧
    (bs.length < fits →
      let a := (buf + BitVec.ofNat 32 bs.length).toNat
      (inRam a = true → s.mem.get a = none) →
      ∃ tx',
        tx'.bytes = tx.bytes ++ bs ∧ tx'.valid = true ∧ tx'.cap = tx.cap ∧ tx'.base = tx.base ∧ Cb.Inv tx' ∧
        let t := { s with
          uart := s.uart.set i { u with ucon := { u.ucon with mtxr := true } }
          cb := s.cb.set (txHandle i) tx'
          cur := { s.cur with todo := .sendLoad i buf count (BitVec.ofNat 32 bs.length) :: s.cur.todo } }
        exec send s = .next t ∧
        (inRam a = true → exec send t = .fault .unwrittenMemory) ∧
        (inRam a = false → exec send t = .fault .noStep))

/-- 45 R346: an undisturbed bulk receive stores as many buffered bytes as are asked for, at `buf` and on, and no other
byte of memory changes. It stops at an address outside RAM, which has no step (20 R86). -/
def Obligations.UartReceiveDequeues : Prop :=
  ∀ (s : State) (i : Uid) (buf count : Word) (rx tx : Cb) (n : Nat),
    s.atStart = true → Driver s i rx tx → buf ≠ 0 →
    (∀ j, j < n → inRam (buf + BitVec.ofNat 32 j).toNat = true) → 3 * n + 8 ≤ s.slice →
    let u := s.uart.get i
    let receive := Instr.uartReceive (BitVec.ofNat 32 i.toNat) buf count
    let held := min count.toNat rx.count
    (n = held →
      ∃ m : Mem,
        exec receive s = .next (State.returned
          { s with
            uart := s.uart.set i { u with ucon := { u.ucon with mrxr := false } }
            cb := s.cb.set (rxHandle i) { rx with r := (rx.r + n) % rx.cap, count := rx.count - n }
            mem := m } 0x34 3 (BitVec.ofNat 32 n)) ∧
        (∀ j, j < n → m.get (buf + BitVec.ofNat 32 j).toNat = rx.bytes[j]?) ∧
        (∀ a, (∀ j, j < n → a ≠ (buf + BitVec.ofNat 32 j).toNat) → m.get a = s.mem.get a)) ∧
    (n < held → inRam (buf + BitVec.ofNat 32 n).toNat = false →
      ∃ (m : Mem) (b : Byte), rx.bytes[n]? = some b ∧
        let t := { s with
          uart := s.uart.set i { u with ucon := { u.ucon with mrxr := true } }
          cb := s.cb.set (rxHandle i) { rx with r := (rx.r + (n + 1)) % rx.cap, count := rx.count - (n + 1) }
          mem := m
          cur := { s.cur with todo := .recvStore i buf count (BitVec.ofNat 32 n) b :: s.cur.todo } }
        exec receive s = .next t ∧ exec receive t = .fault .noStep ∧
        (∀ j, j < n → m.get (buf + BitVec.ofNat 32 j).toNat = rx.bytes[j]?) ∧
        (∀ a, (∀ j, j < n → a ≠ (buf + BitVec.ofNat 32 j).toNat) → m.get a = s.mem.get a))

/-- 45 R347, R348: the callback handles, in every mode and before `uart.init` too. -/
def Obligations.UartCallbackHandles : Prop :=
  ∀ (s : State) (fn : Word), Ready s →
    (∀ i : Uid,
      let id := BitVec.ofNat 32 i.toNat
      (fn = 0 ∨ fn ∈ s.params.callbacks.map Prod.fst →
        exec (.uartSetRxCallback id fn) s = .next (State.returned
          { s with uart := s.uart.set i { s.uart.get i with rxCb := fn } } 0x35 2 0) ∧
        exec (.uartSetTxCallback id fn) s = .next (State.returned
          { s with uart := s.uart.set i { s.uart.get i with txCb := fn } } 0x36 2 0)) ∧
      (fn ≠ 0 → fn ∉ s.params.callbacks.map Prod.fst →
        exec (.uartSetRxCallback id fn) s = .refused .unknownCallback ∧
        exec (.uartSetTxCallback id fn) s = .refused .unknownCallback)) ∧
    (∀ id : Word, 1 < id.toNat →
      exec (.uartSetRxCallback id fn) s = .next (s.failed 0x35 2) ∧
      exec (.uartSetTxCallback id fn) s = .next (s.failed 0x36 2))

/-! ### Interrupts -/

/-- 46 R390 to R393: the controller's three calls, with their checks in order. -/
def Obligations.ControllerCalls : Prop :=
  ∀ (s : State) (src w : Word), Ready s →
    (s.itc.length ≤ src.toNat →
      exec (.itcSetPriority src w) s = .refused .badSource ∧ exec (.itcSetHandler src w) s = .refused .badSource ∧
      exec (.itcEnableInterrupt src) s = .refused .badSource) ∧
    (src.toNat < s.itc.length →
      (1 < w.toNat → exec (.itcSetPriority src w) s = .refused .badLevel) ∧
      exec (.itcSetPriority src 1) s = .refused .fastSourceUnmodelled ∧
      (2 < w.toNat → exec (.itcSetHandler src w) s = .refused .unknownIsrHandler)) ∧
    (∀ e, s.itc[src.toNat]? = some e →
      Accesses (.itcSetPriority src 0) s 0x40 2 { s with itc := s.itc.set src.toNat { e with prio := .normal } } ∧
      Accesses (.itcSetHandler src 0) s 0x41 2 { s with itc := s.itc.set src.toNat { e with handler := none } } ∧
      Accesses (.itcSetHandler src 1) s 0x41 2
        { s with itc := s.itc.set src.toNat { e with handler := some .zero } } ∧
      Accesses (.itcSetHandler src 2) s 0x41 2
        { s with itc := s.itc.set src.toNat { e with handler := some .one } } ∧
      Accesses (.itcEnableInterrupt src) s 0x42 1
        { s with itc := s.itc.set src.toNat { e with enabled := true } })

/-- 44 R293 to R295, 46 R394, R395: when a source is deliverable, and to which ISR. -/
def Obligations.DeliveryOfASource : Prop :=
  ∀ (s : State) (src : Nat) (i : Uid),
    delivers s src = some i ↔
      ∃ e, s.itc[src]? = some e ∧ e.enabled = true ∧ e.prio = .normal ∧ e.handler = some i ∧
        ∃ j : Uid, s.params.uartIrqSrc.get j = src ∧
          ((ReceiveReady s j ∧ (s.uart.get j).ucon.mrxr = false) ∨
            (TransmitReady s j ∧ (s.uart.get j).ucon.mtxr = false))

/-- 60 R420, R423: the core's step. -/
def Obligations.InterruptEntry : Prop :=
  ∀ (s : State) (src : Nat) (ts : List Turn), Running s → s.sched = .core src :: ts →
    (∀ i, s.ctx = .fg → s.cpu.i = false → delivers s src = some i →
      step s = .next { s with
        sched := ts
        saved := some ⟨s.cur, s.cpu.i, s.cpu.f⟩
        cpu := { s.cpu with i := true }
        ctx := .isr src
        cur := { pc := 0, ret := none, out := none, todo := [.isrStatus i] }
        history := s.history ++ [.irqEnter src] }) ∧
    (s.ctx = .fg → (s.cpu.i = true ∨ delivers s src = none) → step s = .next { s with sched := ts }) ∧
    (∀ q, s.ctx = .isr q → s.cpu.i = false → (∃ src' i, delivers s src' = some i) →
      step s = .next { s with
        sched := ts, faults := [.nestedInterrupt], history := s.history ++ [.fault .nestedInterrupt] }) ∧
    (∀ q, s.ctx = .isr q → (s.cpu.i = true ∨ ∀ src', delivers s src' = none) →
      step s = .next { s with sched := ts })

/-- 60 R422: the interrupt return puts the foreground and both CPU mask bits back. -/
def Obligations.InterruptReturn : Prop :=
  ∀ (s : State) (n src : Nat) (ts : List Turn) (sv : Saved),
    Running s → s.sched = .run n :: ts → s.ctx = .isr src → s.saved = some sv → s.cur.todo = [.isrReturn] →
    step s = .next { s with
      sched := ts
      slice := n
      cpu := { s.cpu with i := sv.i, f := sv.f }
      ctx := .fg
      cur := sv.cont
      saved := none
      history := s.history ++ [.irqReturn src] }

/-- 45 R350: a callback starts with its own pc and slots, and ends where its program ends. -/
def Obligations.CallbackInvocation : Prop :=
  ∀ (s : State) (n src : Nat) (ts : List Turn) (h : Word) (fs : List Frame),
    Running s → s.sched = .run n :: ts → s.ctx = .isr src → callbackOf fs = none →
    (∀ (i : Uid) (d : Direction), s.cur.todo = .invoke i d h :: fs →
      step s = .next { s with
        sched := ts
        slice := n
        history := s.history ++ [.callbackInvoked i d h]
        cur := { pc := 0, ret := none, out := none, todo := .callback h :: fs } }) ∧
    (∀ p, s.cur.todo = .callback h :: fs → s.params.callbacks.find? (fun c => c.1 == h) = some (h, p) →
      s.cur.pc = p.length →
      ∀ t, burst { s with sched := ts, slice := n, cur := { s.cur with todo := fs } } = .next t → step s = .next t)

/-- 45 R349: an undisturbed ISR with no callback set moves what it can between FIFOs and buffers, masks the direction
whose buffer is at its limit, clears the latched errors and returns. -/
def Obligations.IsrServesBothDirections : Prop :=
  ∀ (s : State) (i : Uid) (src n : Nat) (ts : List Turn) (sv : Saved) (rx tx : Cb),
    Running s → s.sched = .run n :: ts → s.ctx = .isr src → s.saved = some sv → s.cur.todo = [.isrStatus i] →
    Driver s i rx tx → (s.uart.get i).rxCb = 0 → (s.uart.get i).txCb = 0 →
    let u := s.uart.get i
    let rxOn := ReceiveReady s i ∧ u.ucon.mrxr = false
    let txOn := TransmitReady s i ∧ u.ucon.mtxr = false
    let k := if rxOn then min u.rxfifo.length (rx.cap - rx.count) else 0
    let m := if txOn then min tx.count (s.params.txFifoDepth - u.txfifo.length) else 0
    4 * k + 4 * m + 20 ≤ n →
    ∃ rx',
      rx'.bytes = rx.bytes ++ u.rxfifo.take k ∧ rx'.valid = true ∧ rx'.cap = rx.cap ∧ rx'.base = rx.base ∧
      Cb.Inv rx' ∧
      step s = .next { s with
        sched := ts
        slice := n
        uart := s.uart.set i { u with
          err := ⟨false, false, false, false, false, false⟩
          rxfifo := u.rxfifo.drop k
          txfifo := u.txfifo ++ tx.bytes.take m
          ucon := { u.ucon with
            mrxr := if rxOn ∧ rx.count + k = rx.cap then true else u.ucon.mrxr
            mtxr := if txOn ∧ tx.count = m then true else u.ucon.mtxr } }
        cb := (s.cb.set (rxHandle i) rx').set (txHandle i)
          { tx with r := (tx.r + m) % tx.cap, count := tx.count - m }
        cpu := { s.cpu with i := sv.i, f := sv.f }
        ctx := .fg
        cur := sv.cont
        saved := none
        history := s.history ++ [.irqReturn src] }

/-! ### What every step keeps -/

/-- 43 R250: every circular buffer keeps its invariant, and each byte it counts has a value. -/
def Obligations.BuffersKeepTheirInvariant : Prop :=
  ∀ s t : State, BuffersInv s → step s = .next t → BuffersInv t

/-- 20 R82, R86: the memory keeps its canonical form and nothing outside RAM is ever listed. -/
def Obligations.MemoryStaysCanonical : Prop :=
  ∀ s t : State, MemInv s → step s = .next t → MemInv t

/-- 10 R25, 44 R300, R301, 10 R33, 60 R430: the FIFOs stay within their depths, loopback stays off and two flags stay
0, a continuation is saved exactly while an ISR runs, and no source becomes fast. -/
def Obligations.MachineInvariants : Prop :=
  ∀ s t : State, step s = .next t →
    (FifoInv s → FifoInv t) ∧ (UartFlagsInv s → UartFlagsInv t) ∧ (ContextInv s → ContextInv t) ∧
      (PriorityInv s → PriorityInv t)

/-- 10 R31, R32, R37, 46 R393, 70 R453: what no step takes back. -/
def Obligations.NothingIsTakenBack : Prop :=
  ∀ s t : State, step s = .next t →
    s.history <+: t.history ∧ (∀ k ∈ s.faults, k ∈ t.faults) ∧ (∀ r ∈ s.refusals, r ∈ t.refusals) ∧
    t.params = s.params ∧ t.cb.length = s.cb.length ∧ t.itc.length = s.itc.length ∧
    (∀ i : Uid, (s.uart.get i).ustate = .initialized → (t.uart.get i).ustate = .initialized) ∧
    (∀ (src : Nat) (e : ItcEntry), s.itc[src]? = some e → e.enabled = true →
      ∃ e' : ItcEntry, t.itc[src]? = some e' ∧ e'.enabled = true)

/-- 44 R303: no step reorders or repeats a byte between the data register and the wire, in either direction: both FIFOs
grow at the end and shrink at the front, the transmit FIFO by what goes on the wire and the receive FIFO by what comes
off it. A turn of one atomic step puts a byte into the transmit FIFO only where it writes it to `UDATA`, and takes one off
the receive FIFO only where it reads `UDATA`, whose value that byte is. -/
def Obligations.HardwareFifosKeepOrder : Prop :=
  ∀ (s t : State) (i : Uid), step s = .next t →
    (∃ new, wired i t.history ++ (t.uart.get i).txfifo = wired i s.history ++ (s.uart.get i).txfifo ++ new ∧
      (AtomicTurn s → new = [] ∨ ∃ v, new = [v.extractLsb' 0 8] ∧ WritesUdata s i v)) ∧
    (∃ new taken, received i t.history = received i s.history ++ new ∧
      (s.uart.get i).rxfifo ++ new = taken ++ (t.uart.get i).rxfifo ∧
      (AtomicTurn s → taken = [] ∨ ∃ b, taken = [b] ∧ ReadsUdata s t i b))

/-- 45 R346, 20 R82: no command but the bulk receive changes memory. -/
def Obligations.OnlyReceiveWritesMemory : Prop :=
  ∀ (i : Instr) (s t : State), s.atStart = true → (∀ id buf count, i ≠ .uartReceive id buf count) →
    exec i s = .next t → t.mem = s.mem

/-- 60 R424, R425, 42 R229: unprivileged code changes no register, no controller entry, no mask bit and no memory. -/
def Obligations.UnprivilegedCodeIsConfined : Prop :=
  ∀ (i : Instr) (s t : State), s.atStart = true → s.mode = .unprivileged → exec i s = .next t →
    t.gpio = s.gpio ∧ t.itc = s.itc ∧ t.mem = s.mem ∧ t.cpu.i = s.cpu.i ∧ t.cpu.f = s.cpu.f ∧
    t.ctx = s.ctx ∧ t.saved = s.saved ∧ t.fselPending = s.fselPending ∧
    ∀ j : Uid, ∃ rxCb txCb, t.uart.get j = { s.uart.get j with rxCb := rxCb, txCb := txCb }
end

