-- ==== Sys2Proof/Laws/Basic.lean ====
section
/-! SUPPORT. Laws of the small tables, the bit helpers and the outcomes of a check. -/

namespace Sys2Proof

@[simp] theorem Pair.get_set {α : Type} (p : Pair α) (i j : Two) (v : α) :
    (p.set i v).get j = if j = i then v else p.get j := by
  cases i <;> cases j <;> rfl

@[simp] theorem Quad.get_set {α : Type} (q : Quad α) (i j : Four) (v : α) :
    (q.set i v).get j = if j = i then v else q.get j := by
  cases i <;> cases j <;> rfl

@[simp] theorem Pair.set_get {α : Type} (p : Pair α) (i : Two) : p.set i (p.get i) = p := by
  cases i <;> rfl

@[simp] theorem Pair.set_set {α : Type} (p : Pair α) (i : Two) (v w : α) : (p.set i v).set i w = p.set i w := by
  cases i <;> rfl

theorem bitsBelow_bit (f : Nat → Bool) (n b : Nat) (hn : n ≤ 32) :
    (bitsBelow f n).getLsbD b = (decide (b < n) && f b) := by
  induction n with
  | zero => simp [bitsBelow]
  | succ n ih =>
    have hbit : (if f n then 1#32 <<< n else 0#32 : Word).getLsbD b = (decide (b = n) && f b) := by
      by_cases hb : b = n
      · subst hb
        cases f b <;> simp [BitVec.getLsbD_shiftLeft]
        omega
      · cases hf : f n <;> simp [hb, BitVec.getLsbD_shiftLeft, BitVec.getLsbD_one]
        omega
    rw [bitsBelow, BitVec.getLsbD_or, ih (by omega), hbit]
    by_cases hb : b = n
    · subst hb; simp
    · have : (b < n + 1) ↔ (b < n) := by omega
      simp [hb, this]

/-- A bit of the word built from a bit function. -/
theorem wordOfBits_bit (f : Nat → Bool) (b : Nat) (hb : b < 32) : bitOf (wordOfBits f) b = f b := by
  rw [bitOf, wordOfBits, bitsBelow_bit f 32 b (le_refl 32)]
  simp [hb]

namespace Machine

@[simp] theorem Res.bind_ok {α β : Type} (a : α) (f : α → Res β) : (Res.ok a).bind f = f a := rfl
@[simp] theorem Res.bind_fault {α β : Type} (k : Fault) (f : α → Res β) : (Res.fault k).bind f = .fault k := rfl
@[simp] theorem Res.bind_refused {α β : Type} (r : Refusal) (f : α → Res β) : (Res.refused r).bind f = .refused r := rfl
@[simp] theorem Res.map_ok {α β : Type} (a : α) (f : α → β) : (Res.ok a).map f = .ok (f a) := rfl
@[simp] theorem Res.map_fault {α β : Type} (k : Fault) (f : α → β) : (Res.fault k).map f = .fault k := rfl
@[simp] theorem Res.map_refused {α β : Type} (r : Refusal) (f : α → β) : (Res.refused r).map f = .refused r := rfl

/-- A mapped check gives a value exactly where the check gives one. -/
theorem Res.map_eq_ok {α β : Type} {x : Res α} {f : α → β} {b : β} (h : x.map f = .ok b) :
    ∃ a, x = .ok a ∧ f a = b := by
  cases x with
  | ok a => exact ⟨a, rfl, by simpa using h⟩
  | fault k => simp at h
  | refused r => simp at h

/-- A chained check gives a value exactly where both parts do. -/
theorem Res.bind_eq_ok {α β : Type} {x : Res α} {f : α → Res β} {b : β} (h : x.bind f = .ok b) :
    ∃ a, x = .ok a ∧ f a = .ok b := by
  cases x with
  | ok a => exact ⟨a, rfl, by simpa using h⟩
  | fault k => simp at h
  | refused r => simp at h

/-- The privilege check passes exactly in privileged mode. -/
theorem privileged_eq_ok {α : Type} {s : State} {x : Res α} {a : α} (h : privileged s x = .ok a) :
    s.mode = .privileged ∧ x = .ok a := by
  unfold privileged at h
  cases hm : s.mode <;> simp_all

@[simp] theorem privileged_of {α : Type} {s : State} {x : Res α} (h : s.mode = .privileged) : privileged s x = x := by
  simp [privileged, h]

end Machine
end Sys2Proof
end

