-- ==== Sys2Proof/Laws/Mem.lean ====
section
/-! SUPPORT. RAM and buffer slots: reading after writing, and the canonical form. -/

namespace Sys2Proof.Machine

/-- A read after a write gives the byte written, and leaves every other address alone. -/
theorem Mem.get_set (m : Mem) (a c : Nat) (v : Byte) :
    (m.set a v).get c = if c = a then some v else m.get c := by
  induction m with
  | nil => simp [Mem.set, Mem.get]
  | cons p m ih =>
    obtain ⟨b, u⟩ := p
    unfold Mem.set
    split
    · simp [Mem.get]
    · split
      · next hab => subst hab; by_cases hc : c = a <;> simp [Mem.get, hc]
      · next hab =>
        by_cases hc : c = b
        · subst hc; simp [Mem.get, Ne.symm hab]
        · simp [Mem.get, hc, ih]

/-- Every address of the list lies above `b`. -/
def Mem.above (b : Nat) (m : Mem) : Prop := ∀ c ∈ m, b < c.1

/-- The canonical form, one cell at a time. -/
theorem Mem.wf_cons (b : Nat) (u : Byte) (m : Mem) :
    Mem.wf ((b, u) :: m) = true ↔ Mem.above b m ∧ Mem.wf m = true := by
  induction m generalizing b u with
  | nil => simp [Mem.wf, Mem.above]
  | cons q m ih =>
    obtain ⟨c, w⟩ := q
    constructor
    · intro h
      simp [Mem.wf] at h
      refine ⟨?_, h.2⟩
      intro x hx
      rcases List.mem_cons.mp hx with rfl | hx
      · exact h.1
      · have := (ih c w).mp h.2
        exact lt_trans h.1 (this.1 x hx)
    · rintro ⟨ha, hw⟩
      simp only [Mem.wf, Bool.and_eq_true, decide_eq_true_eq]
      exact ⟨ha (c, w) (by simp), hw⟩

/-- A cell of the list after a write is the one written or was there before. -/
theorem Mem.mem_set {m : Mem} {a : Nat} {v : Byte} {c : Host.Cell} (h : c ∈ m.set a v) : c = (a, v) ∨ c ∈ m := by
  induction m with
  | nil => simpa [Mem.set] using h
  | cons p m ih =>
    obtain ⟨b, u⟩ := p
    unfold Mem.set at h
    split at h
    · simpa using h
    · split at h
      · rcases List.mem_cons.mp h with h | h
        · exact .inl h
        · exact .inr (List.mem_cons_of_mem _ h)
      · rcases List.mem_cons.mp h with h | h
        · exact .inr (by simp [h])
        · rcases ih h with h | h
          · exact .inl h
          · exact .inr (List.mem_cons_of_mem _ h)

/-- A write keeps the canonical form. -/
theorem Mem.set_wf (m : Mem) (a : Nat) (v : Byte) (hm : m.wf = true) : (m.set a v).wf = true := by
  induction m with
  | nil => rfl
  | cons p m ih =>
    obtain ⟨b, u⟩ := p
    obtain ⟨hab, hw⟩ := (Mem.wf_cons b u m).mp hm
    unfold Mem.set
    split
    · next hlt =>
      refine (Mem.wf_cons _ _ _).mpr ⟨?_, hm⟩
      intro x hx
      rcases List.mem_cons.mp hx with rfl | hx
      · exact hlt
      · exact lt_trans hlt (hab x hx)
    · split
      · next heq => subst heq; exact (Mem.wf_cons _ _ _).mpr ⟨hab, hw⟩
      · next hlt hne =>
        refine (Mem.wf_cons _ _ _).mpr ⟨?_, ih hw⟩
        intro x hx
        rcases Mem.mem_set hx with rfl | hx
        · show b < a; omega
        · exact hab x hx

/-- A RAM store keeps the canonical form. -/
theorem memWrite_wf {s t : State} {a : Word} {b : Byte} (h : memWrite s a b = .ok t) (hw : Mem.wf s.mem = true) :
    Mem.wf t.mem = true := by
  unfold memWrite at h
  split at h
  · cases h; exact Mem.set_wf _ _ _ hw
  · cases h

/-- Everything a RAM store can do. -/
theorem memWrite_spec {s t : State} {a : Word} {b : Byte} (h : memWrite s a b = .ok t) :
    inRam a.toNat = true ∧ t = { s with mem := s.mem.set a.toNat b } := by
  unfold memWrite at h
  split at h
  · next hr => cases h; exact ⟨hr, rfl⟩
  · cases h

/-- Everything a RAM load can answer. -/
theorem memRead_spec {s : State} {a : Word} {b : Byte} :
    memRead s a = .ok b ↔ inRam a.toNat = true ∧ s.mem.get a.toNat = some b := by
  unfold memRead
  cases hr : inRam a.toNat <;> cases hg : s.mem.get a.toNat <;> simp

end Sys2Proof.Machine
end

