-- ==== Sys2Proof/Laws/Buffers.lean ====
section
/-! SUPPORT. Everything a buffer primitive can do, said once (43 R252 to R256, R260). -/

namespace Sys2Proof.Machine

/-- A buffer passes the common checks exactly where it exists, is initialised, and the discipline holds. -/
theorem bufferAt_eq_ok {s : State} {h : Nat} {b : Cb} :
    bufferAt s h = .ok b ↔ s.cb[h]? = some b ∧ b.valid = true ∧ undisciplined s h = false := by
  unfold bufferAt
  cases s.cb[h]? with
  | none => simp
  | some c =>
    cases hv : c.valid <;> cases hu : undisciplined s h <;> simp [hv]
    all_goals (intro e; subst e; simp [hv])

theorem cbIsEmpty_eq_ok {s : State} {h : Nat} {e : Bool} (hx : cbIsEmpty s h = .ok e) :
    ∃ b, bufferAt s h = .ok b ∧ e = b.empty := by
  obtain ⟨b, hb, rfl⟩ := Res.map_eq_ok hx
  exact ⟨b, hb, rfl⟩

theorem cbIsFull_eq_ok {s : State} {h : Nat} {e : Bool} (hx : cbIsFull s h = .ok e) :
    ∃ b, bufferAt s h = .ok b ∧ e = b.full := by
  obtain ⟨b, hb, rfl⟩ := Res.map_eq_ok hx
  exact ⟨b, hb, rfl⟩

theorem cbInit_eq_ok {s t : State} {h : Nat} {a : Word} {cap : Nat} (hx : cbInit s h a cap = .ok t) :
    h < s.cb.length ∧ 0 < cap ∧ t = s.setCb h ⟨true, cap, a, 0, 0, 0, []⟩ := by
  unfold cbInit at hx
  split at hx
  · cases hx
  · next b hb =>
    split at hx
    · cases hx
    · next hc =>
      split at hx
      · cases hx
      · cases hx
        exact ⟨(List.getElem?_eq_some_iff.mp hb).1, Nat.pos_of_ne_zero hc, rfl⟩

theorem cbWrite_eq_ok {s t : State} {h : Nat} {v : Byte} (hx : cbWrite s h v = .ok t) :
    ∃ b, bufferAt s h = .ok b ∧ b.full = false ∧ t = s.setCb h (b.put v) := by
  obtain ⟨b, hb, hx⟩ := Res.bind_eq_ok hx
  split at hx
  · cases hx
  · next hf => cases hx; exact ⟨b, hb, by simpa using hf, rfl⟩

theorem cbRead_eq_ok {s t : State} {h : Nat} {v : Byte} (hx : cbRead s h = .ok (v, t)) :
    ∃ b, bufferAt s h = .ok b ∧ b.empty = false ∧ v = b.front ∧ t = s.setCb h b.drop := by
  obtain ⟨b, hb, hx⟩ := Res.bind_eq_ok hx
  split at hx
  · cases hx
  · next hf => cases hx; exact ⟨b, hb, by simpa using hf, rfl, rfl⟩

/-- 45 R340: the handles of a UART's buffers belong to it. -/
theorem uartOfBuffer_rx (i : Uid) : uartOfBuffer (rxBuffer i) = some (i, .rx) := by
  cases i <;> rfl

theorem uartOfBuffer_tx (i : Uid) : uartOfBuffer (txBuffer i) = some (i, .tx) := by
  cases i <;> rfl

/-- With the receive interrupt masked, the receive buffer may be touched. -/
theorem disciplined_rx {s : State} {i : Uid} (h : (s.uart.get i).ucon.mrxr = true) :
    undisciplined s (rxBuffer i) = false := by
  simp [undisciplined, uartOfBuffer_rx, guarded, h]

/-- With the transmit interrupt masked, the transmit buffer may be touched. -/
theorem disciplined_tx {s : State} {i : Uid} (h : (s.uart.get i).ucon.mtxr = true) :
    undisciplined s (txBuffer i) = false := by
  simp [undisciplined, uartOfBuffer_tx, guarded, h]

end Sys2Proof.Machine
end

