-- ==== Sys2Proof/Laws/BufferInv.lean ====
section
/-! SUPPORT. The three changes a buffer primitive can make keep the buffer's invariant (43 R250). -/

namespace Sys2Proof.Machine

theorem mod_succ_add (r c k : Nat) : ((r + 1) % c + k) % c = (r + (k + 1)) % c := by
  rw [Nat.mod_add_mod]
  congr 1
  omega

/-- A fresh buffer meets the invariant. -/
theorem Cb.inv_fresh {cap : Nat} {a : Word} (h : 0 < cap) : Cb.Inv ⟨true, cap, a, 0, 0, 0, []⟩ :=
  ⟨rfl, fun _ => ⟨h, h, Nat.zero_le _, by simp, by simp⟩⟩

/-- Writing to a buffer that is not full keeps the invariant. -/
theorem Cb.inv_put {b : Cb} {v : Byte} (hv : b.valid = true) (hf : b.full = false) (hi : Cb.Inv b) :
    Cb.Inv (b.put v) := by
  obtain ⟨hw, h⟩ := hi
  obtain ⟨h1, -, h3, h4, h5⟩ := h hv
  have hne : b.count ≠ b.cap := by simpa [Cb.full] using hf
  refine ⟨Mem.set_wf _ _ _ hw, fun _ => ⟨h1, Nat.mod_lt _ (by omega), by simp [Cb.put]; omega, ?_, ?_⟩⟩
  · show (b.w + 1) % b.cap = (b.r + (b.count + 1)) % b.cap
    rw [h4, Nat.mod_add_mod]
    rfl
  · intro j hj
    show ((b.storage.set b.w v).get ((b.r + j) % b.cap)).isSome = true
    rw [Mem.get_set]
    split
    · rfl
    · next hother =>
      apply h5
      rcases Nat.lt_succ_iff_lt_or_eq.mp (show j < b.count + 1 from hj) with h | h
      · exact h
      · exact absurd (h ▸ h4.symm) hother

/-- Reading from a buffer that is not empty keeps the invariant. -/
theorem Cb.inv_drop {b : Cb} (hv : b.valid = true) (he : b.empty = false) (hi : Cb.Inv b) : Cb.Inv b.drop := by
  obtain ⟨hw, h⟩ := hi
  obtain ⟨h1, h2, h3, h4, h5⟩ := h hv
  have hne : b.count ≠ 0 := by simpa [Cb.empty] using he
  refine ⟨hw, fun _ => ⟨Nat.mod_lt _ (by omega), h2, by simp [Cb.drop]; omega, ?_, fun j hj => ?_⟩⟩
  · show b.w = ((b.r + 1) % b.cap + (b.count - 1)) % b.cap
    rw [mod_succ_add, h4]
    congr 1
    omega
  · show (b.storage.get (((b.r + 1) % b.cap + j) % b.cap)).isSome = true
    rw [mod_succ_add]
    have hj : j < b.count - 1 := hj
    exact h5 _ (by omega)

/-- The slot a read takes holds a value. -/
theorem Cb.inv_front {b : Cb} (hv : b.valid = true) (hi : Cb.Inv b) (hc : b.count ≠ 0) :
    ∃ v, b.storage.get b.r = some v := by
  obtain ⟨hr, -, -, -, hs⟩ := hi.2 hv
  have := hs 0 (by omega)
  rw [Nat.add_zero, Nat.mod_eq_of_lt hr] at this
  exact Option.isSome_iff_exists.mp this

end Sys2Proof.Machine
end

