-- ==== Sys2Proof/Laws/Controller.lean ====
section
/-! SUPPORT. Everything a controller call can do, said once (46 R391 to R393). -/

namespace Sys2Proof.Machine

theorem withSource_eq_ok {s t : State} {src : Nat} {f : ItcEntry → ItcEntry} (hx : withSource s src f = .ok t) :
    ∃ e, s.itc[src]? = some e ∧ s.mode = .privileged ∧ t = s.setItc src (f e) := by
  unfold withSource at hx
  split at hx
  · cases hx
  · next e he =>
    obtain ⟨hm, hx⟩ := privileged_eq_ok hx
    cases hx
    exact ⟨e, he, hm, rfl⟩

theorem itcSetPriority_eq_ok {s t : State} {src level : Nat} (hx : itcSetPriority s src level = .ok t) :
    ∃ e, s.itc[src]? = some e ∧ t = s.setItc src { e with prio := .normal } := by
  unfold itcSetPriority at hx
  split at hx
  · cases hx
  · split at hx
    · cases hx
    · split at hx
      · cases hx
      · obtain ⟨e, he, _, ht⟩ := withSource_eq_ok hx
        exact ⟨e, he, ht⟩

theorem itcSetHandler_eq_ok {s t : State} {src : Nat} {h : Option Uid} (hx : itcSetHandler s src h = .ok t) :
    ∃ e, s.itc[src]? = some e ∧ t = s.setItc src { e with handler := h } := by
  obtain ⟨e, he, _, ht⟩ := withSource_eq_ok hx
  exact ⟨e, he, ht⟩

theorem itcEnableInterrupt_eq_ok {s t : State} {src : Nat} (hx : itcEnableInterrupt s src = .ok t) :
    ∃ e, s.itc[src]? = some e ∧ t = s.setItc src { e with enabled := true } := by
  obtain ⟨e, he, _, ht⟩ := withSource_eq_ok hx
  exact ⟨e, he, ht⟩

end Sys2Proof.Machine
end

