-- ==== Sys2Proof/Laws/State.lean ====
section
/-! SUPPORT. What each named update of the state leaves in each field, so that no proof unfolds a record update. -/

namespace Sys2Proof.Machine

/-! ### `State.setUart` -/

@[simp] theorem State.setUart_gpio (s : State) (i : Uid) (u : Uart) : (s.setUart i u).gpio = s.gpio := rfl
@[simp] theorem State.setUart_cb (s : State) (i : Uid) (u : Uart) : (s.setUart i u).cb = s.cb := rfl
@[simp] theorem State.setUart_cpu (s : State) (i : Uid) (u : Uart) : (s.setUart i u).cpu = s.cpu := rfl
@[simp] theorem State.setUart_itc (s : State) (i : Uid) (u : Uart) : (s.setUart i u).itc = s.itc := rfl
@[simp] theorem State.setUart_mem (s : State) (i : Uid) (u : Uart) : (s.setUart i u).mem = s.mem := rfl
@[simp] theorem State.setUart_cur (s : State) (i : Uid) (u : Uart) : (s.setUart i u).cur = s.cur := rfl
@[simp] theorem State.setUart_ctx (s : State) (i : Uid) (u : Uart) : (s.setUart i u).ctx = s.ctx := rfl
@[simp] theorem State.setUart_saved (s : State) (i : Uid) (u : Uart) : (s.setUart i u).saved = s.saved := rfl
@[simp] theorem State.setUart_fselPending (s : State) (i : Uid) (u : Uart) : (s.setUart i u).fselPending = s.fselPending := rfl
@[simp] theorem State.setUart_lastError (s : State) (i : Uid) (u : Uart) : (s.setUart i u).lastError = s.lastError := rfl
@[simp] theorem State.setUart_faults (s : State) (i : Uid) (u : Uart) : (s.setUart i u).faults = s.faults := rfl
@[simp] theorem State.setUart_refusals (s : State) (i : Uid) (u : Uart) : (s.setUart i u).refusals = s.refusals := rfl
@[simp] theorem State.setUart_history (s : State) (i : Uid) (u : Uart) : (s.setUart i u).history = s.history := rfl
@[simp] theorem State.setUart_params (s : State) (i : Uid) (u : Uart) : (s.setUart i u).params = s.params := rfl
@[simp] theorem State.setUart_sched (s : State) (i : Uid) (u : Uart) : (s.setUart i u).sched = s.sched := rfl
@[simp] theorem State.setUart_slice (s : State) (i : Uid) (u : Uart) : (s.setUart i u).slice = s.slice := rfl
@[simp] theorem State.setUart_draws (s : State) (i : Uid) (u : Uart) : (s.setUart i u).draws = s.draws := rfl

/-! ### `State.setCb` -/

@[simp] theorem State.setCb_gpio (s : State) (h : Nat) (b : Cb) : (s.setCb h b).gpio = s.gpio := rfl
@[simp] theorem State.setCb_uart (s : State) (h : Nat) (b : Cb) : (s.setCb h b).uart = s.uart := rfl
@[simp] theorem State.setCb_cpu (s : State) (h : Nat) (b : Cb) : (s.setCb h b).cpu = s.cpu := rfl
@[simp] theorem State.setCb_itc (s : State) (h : Nat) (b : Cb) : (s.setCb h b).itc = s.itc := rfl
@[simp] theorem State.setCb_mem (s : State) (h : Nat) (b : Cb) : (s.setCb h b).mem = s.mem := rfl
@[simp] theorem State.setCb_cur (s : State) (h : Nat) (b : Cb) : (s.setCb h b).cur = s.cur := rfl
@[simp] theorem State.setCb_ctx (s : State) (h : Nat) (b : Cb) : (s.setCb h b).ctx = s.ctx := rfl
@[simp] theorem State.setCb_saved (s : State) (h : Nat) (b : Cb) : (s.setCb h b).saved = s.saved := rfl
@[simp] theorem State.setCb_fselPending (s : State) (h : Nat) (b : Cb) : (s.setCb h b).fselPending = s.fselPending := rfl
@[simp] theorem State.setCb_lastError (s : State) (h : Nat) (b : Cb) : (s.setCb h b).lastError = s.lastError := rfl
@[simp] theorem State.setCb_faults (s : State) (h : Nat) (b : Cb) : (s.setCb h b).faults = s.faults := rfl
@[simp] theorem State.setCb_refusals (s : State) (h : Nat) (b : Cb) : (s.setCb h b).refusals = s.refusals := rfl
@[simp] theorem State.setCb_history (s : State) (h : Nat) (b : Cb) : (s.setCb h b).history = s.history := rfl
@[simp] theorem State.setCb_params (s : State) (h : Nat) (b : Cb) : (s.setCb h b).params = s.params := rfl
@[simp] theorem State.setCb_sched (s : State) (h : Nat) (b : Cb) : (s.setCb h b).sched = s.sched := rfl
@[simp] theorem State.setCb_slice (s : State) (h : Nat) (b : Cb) : (s.setCb h b).slice = s.slice := rfl
@[simp] theorem State.setCb_draws (s : State) (h : Nat) (b : Cb) : (s.setCb h b).draws = s.draws := rfl

/-! ### `State.setItc` -/

@[simp] theorem State.setItc_gpio (s : State) (src : Nat) (e : ItcEntry) : (s.setItc src e).gpio = s.gpio := rfl
@[simp] theorem State.setItc_uart (s : State) (src : Nat) (e : ItcEntry) : (s.setItc src e).uart = s.uart := rfl
@[simp] theorem State.setItc_cb (s : State) (src : Nat) (e : ItcEntry) : (s.setItc src e).cb = s.cb := rfl
@[simp] theorem State.setItc_cpu (s : State) (src : Nat) (e : ItcEntry) : (s.setItc src e).cpu = s.cpu := rfl
@[simp] theorem State.setItc_mem (s : State) (src : Nat) (e : ItcEntry) : (s.setItc src e).mem = s.mem := rfl
@[simp] theorem State.setItc_cur (s : State) (src : Nat) (e : ItcEntry) : (s.setItc src e).cur = s.cur := rfl
@[simp] theorem State.setItc_ctx (s : State) (src : Nat) (e : ItcEntry) : (s.setItc src e).ctx = s.ctx := rfl
@[simp] theorem State.setItc_saved (s : State) (src : Nat) (e : ItcEntry) : (s.setItc src e).saved = s.saved := rfl
@[simp] theorem State.setItc_fselPending (s : State) (src : Nat) (e : ItcEntry) : (s.setItc src e).fselPending = s.fselPending := rfl
@[simp] theorem State.setItc_lastError (s : State) (src : Nat) (e : ItcEntry) : (s.setItc src e).lastError = s.lastError := rfl
@[simp] theorem State.setItc_faults (s : State) (src : Nat) (e : ItcEntry) : (s.setItc src e).faults = s.faults := rfl
@[simp] theorem State.setItc_refusals (s : State) (src : Nat) (e : ItcEntry) : (s.setItc src e).refusals = s.refusals := rfl
@[simp] theorem State.setItc_history (s : State) (src : Nat) (e : ItcEntry) : (s.setItc src e).history = s.history := rfl
@[simp] theorem State.setItc_params (s : State) (src : Nat) (e : ItcEntry) : (s.setItc src e).params = s.params := rfl
@[simp] theorem State.setItc_sched (s : State) (src : Nat) (e : ItcEntry) : (s.setItc src e).sched = s.sched := rfl
@[simp] theorem State.setItc_slice (s : State) (src : Nat) (e : ItcEntry) : (s.setItc src e).slice = s.slice := rfl
@[simp] theorem State.setItc_draws (s : State) (src : Nat) (e : ItcEntry) : (s.setItc src e).draws = s.draws := rfl

/-! ### `State.emit` -/

@[simp] theorem State.emit_gpio (s : State) (e : Event) : (s.emit e).gpio = s.gpio := rfl
@[simp] theorem State.emit_uart (s : State) (e : Event) : (s.emit e).uart = s.uart := rfl
@[simp] theorem State.emit_cb (s : State) (e : Event) : (s.emit e).cb = s.cb := rfl
@[simp] theorem State.emit_cpu (s : State) (e : Event) : (s.emit e).cpu = s.cpu := rfl
@[simp] theorem State.emit_itc (s : State) (e : Event) : (s.emit e).itc = s.itc := rfl
@[simp] theorem State.emit_mem (s : State) (e : Event) : (s.emit e).mem = s.mem := rfl
@[simp] theorem State.emit_cur (s : State) (e : Event) : (s.emit e).cur = s.cur := rfl
@[simp] theorem State.emit_ctx (s : State) (e : Event) : (s.emit e).ctx = s.ctx := rfl
@[simp] theorem State.emit_saved (s : State) (e : Event) : (s.emit e).saved = s.saved := rfl
@[simp] theorem State.emit_fselPending (s : State) (e : Event) : (s.emit e).fselPending = s.fselPending := rfl
@[simp] theorem State.emit_lastError (s : State) (e : Event) : (s.emit e).lastError = s.lastError := rfl
@[simp] theorem State.emit_faults (s : State) (e : Event) : (s.emit e).faults = s.faults := rfl
@[simp] theorem State.emit_refusals (s : State) (e : Event) : (s.emit e).refusals = s.refusals := rfl
@[simp] theorem State.emit_params (s : State) (e : Event) : (s.emit e).params = s.params := rfl
@[simp] theorem State.emit_sched (s : State) (e : Event) : (s.emit e).sched = s.sched := rfl
@[simp] theorem State.emit_slice (s : State) (e : Event) : (s.emit e).slice = s.slice := rfl
@[simp] theorem State.emit_draws (s : State) (e : Event) : (s.emit e).draws = s.draws := rfl

/-! ### `State.setRet` -/

@[simp] theorem State.setRet_gpio (s : State) (v : Word) : (s.setRet v).gpio = s.gpio := rfl
@[simp] theorem State.setRet_uart (s : State) (v : Word) : (s.setRet v).uart = s.uart := rfl
@[simp] theorem State.setRet_cb (s : State) (v : Word) : (s.setRet v).cb = s.cb := rfl
@[simp] theorem State.setRet_cpu (s : State) (v : Word) : (s.setRet v).cpu = s.cpu := rfl
@[simp] theorem State.setRet_itc (s : State) (v : Word) : (s.setRet v).itc = s.itc := rfl
@[simp] theorem State.setRet_mem (s : State) (v : Word) : (s.setRet v).mem = s.mem := rfl
@[simp] theorem State.setRet_ctx (s : State) (v : Word) : (s.setRet v).ctx = s.ctx := rfl
@[simp] theorem State.setRet_saved (s : State) (v : Word) : (s.setRet v).saved = s.saved := rfl
@[simp] theorem State.setRet_fselPending (s : State) (v : Word) : (s.setRet v).fselPending = s.fselPending := rfl
@[simp] theorem State.setRet_lastError (s : State) (v : Word) : (s.setRet v).lastError = s.lastError := rfl
@[simp] theorem State.setRet_faults (s : State) (v : Word) : (s.setRet v).faults = s.faults := rfl
@[simp] theorem State.setRet_refusals (s : State) (v : Word) : (s.setRet v).refusals = s.refusals := rfl
@[simp] theorem State.setRet_history (s : State) (v : Word) : (s.setRet v).history = s.history := rfl
@[simp] theorem State.setRet_params (s : State) (v : Word) : (s.setRet v).params = s.params := rfl
@[simp] theorem State.setRet_sched (s : State) (v : Word) : (s.setRet v).sched = s.sched := rfl
@[simp] theorem State.setRet_slice (s : State) (v : Word) : (s.setRet v).slice = s.slice := rfl
@[simp] theorem State.setRet_draws (s : State) (v : Word) : (s.setRet v).draws = s.draws := rfl

/-! ### `State.setTodo` -/

@[simp] theorem State.setTodo_gpio (s : State) (fs : List Frame) : (s.setTodo fs).gpio = s.gpio := rfl
@[simp] theorem State.setTodo_uart (s : State) (fs : List Frame) : (s.setTodo fs).uart = s.uart := rfl
@[simp] theorem State.setTodo_cb (s : State) (fs : List Frame) : (s.setTodo fs).cb = s.cb := rfl
@[simp] theorem State.setTodo_cpu (s : State) (fs : List Frame) : (s.setTodo fs).cpu = s.cpu := rfl
@[simp] theorem State.setTodo_itc (s : State) (fs : List Frame) : (s.setTodo fs).itc = s.itc := rfl
@[simp] theorem State.setTodo_mem (s : State) (fs : List Frame) : (s.setTodo fs).mem = s.mem := rfl
@[simp] theorem State.setTodo_ctx (s : State) (fs : List Frame) : (s.setTodo fs).ctx = s.ctx := rfl
@[simp] theorem State.setTodo_saved (s : State) (fs : List Frame) : (s.setTodo fs).saved = s.saved := rfl
@[simp] theorem State.setTodo_fselPending (s : State) (fs : List Frame) : (s.setTodo fs).fselPending = s.fselPending := rfl
@[simp] theorem State.setTodo_lastError (s : State) (fs : List Frame) : (s.setTodo fs).lastError = s.lastError := rfl
@[simp] theorem State.setTodo_faults (s : State) (fs : List Frame) : (s.setTodo fs).faults = s.faults := rfl
@[simp] theorem State.setTodo_refusals (s : State) (fs : List Frame) : (s.setTodo fs).refusals = s.refusals := rfl
@[simp] theorem State.setTodo_history (s : State) (fs : List Frame) : (s.setTodo fs).history = s.history := rfl
@[simp] theorem State.setTodo_params (s : State) (fs : List Frame) : (s.setTodo fs).params = s.params := rfl
@[simp] theorem State.setTodo_sched (s : State) (fs : List Frame) : (s.setTodo fs).sched = s.sched := rfl
@[simp] theorem State.setTodo_slice (s : State) (fs : List Frame) : (s.setTodo fs).slice = s.slice := rfl
@[simp] theorem State.setTodo_draws (s : State) (fs : List Frame) : (s.setTodo fs).draws = s.draws := rfl

/-! ### `State.push` -/

@[simp] theorem State.push_gpio (s : State) (fs : List Frame) : (s.push fs).gpio = s.gpio := rfl
@[simp] theorem State.push_uart (s : State) (fs : List Frame) : (s.push fs).uart = s.uart := rfl
@[simp] theorem State.push_cb (s : State) (fs : List Frame) : (s.push fs).cb = s.cb := rfl
@[simp] theorem State.push_cpu (s : State) (fs : List Frame) : (s.push fs).cpu = s.cpu := rfl
@[simp] theorem State.push_itc (s : State) (fs : List Frame) : (s.push fs).itc = s.itc := rfl
@[simp] theorem State.push_mem (s : State) (fs : List Frame) : (s.push fs).mem = s.mem := rfl
@[simp] theorem State.push_ctx (s : State) (fs : List Frame) : (s.push fs).ctx = s.ctx := rfl
@[simp] theorem State.push_saved (s : State) (fs : List Frame) : (s.push fs).saved = s.saved := rfl
@[simp] theorem State.push_fselPending (s : State) (fs : List Frame) : (s.push fs).fselPending = s.fselPending := rfl
@[simp] theorem State.push_lastError (s : State) (fs : List Frame) : (s.push fs).lastError = s.lastError := rfl
@[simp] theorem State.push_faults (s : State) (fs : List Frame) : (s.push fs).faults = s.faults := rfl
@[simp] theorem State.push_refusals (s : State) (fs : List Frame) : (s.push fs).refusals = s.refusals := rfl
@[simp] theorem State.push_history (s : State) (fs : List Frame) : (s.push fs).history = s.history := rfl
@[simp] theorem State.push_params (s : State) (fs : List Frame) : (s.push fs).params = s.params := rfl
@[simp] theorem State.push_sched (s : State) (fs : List Frame) : (s.push fs).sched = s.sched := rfl
@[simp] theorem State.push_slice (s : State) (fs : List Frame) : (s.push fs).slice = s.slice := rfl
@[simp] theorem State.push_draws (s : State) (fs : List Frame) : (s.push fs).draws = s.draws := rfl

/-! ### `State.afterDraw` -/

@[simp] theorem State.afterDraw_gpio (s : State) : s.afterDraw.gpio = s.gpio := rfl
@[simp] theorem State.afterDraw_uart (s : State) : s.afterDraw.uart = s.uart := rfl
@[simp] theorem State.afterDraw_cb (s : State) : s.afterDraw.cb = s.cb := rfl
@[simp] theorem State.afterDraw_cpu (s : State) : s.afterDraw.cpu = s.cpu := rfl
@[simp] theorem State.afterDraw_itc (s : State) : s.afterDraw.itc = s.itc := rfl
@[simp] theorem State.afterDraw_mem (s : State) : s.afterDraw.mem = s.mem := rfl
@[simp] theorem State.afterDraw_cur (s : State) : s.afterDraw.cur = s.cur := rfl
@[simp] theorem State.afterDraw_ctx (s : State) : s.afterDraw.ctx = s.ctx := rfl
@[simp] theorem State.afterDraw_saved (s : State) : s.afterDraw.saved = s.saved := rfl
@[simp] theorem State.afterDraw_fselPending (s : State) : s.afterDraw.fselPending = s.fselPending := rfl
@[simp] theorem State.afterDraw_lastError (s : State) : s.afterDraw.lastError = s.lastError := rfl
@[simp] theorem State.afterDraw_faults (s : State) : s.afterDraw.faults = s.faults := rfl
@[simp] theorem State.afterDraw_refusals (s : State) : s.afterDraw.refusals = s.refusals := rfl
@[simp] theorem State.afterDraw_history (s : State) : s.afterDraw.history = s.history := rfl
@[simp] theorem State.afterDraw_params (s : State) : s.afterDraw.params = s.params := rfl
@[simp] theorem State.afterDraw_sched (s : State) : s.afterDraw.sched = s.sched := rfl
@[simp] theorem State.afterDraw_slice (s : State) : s.afterDraw.slice = s.slice := rfl

/-! ### `State.complete` -/

@[simp] theorem State.complete_gpio (s : State) (op : Byte) (n : Nat) (ret out : Option Word) : (s.complete op n ret out).gpio = s.gpio := rfl
@[simp] theorem State.complete_uart (s : State) (op : Byte) (n : Nat) (ret out : Option Word) : (s.complete op n ret out).uart = s.uart := rfl
@[simp] theorem State.complete_cb (s : State) (op : Byte) (n : Nat) (ret out : Option Word) : (s.complete op n ret out).cb = s.cb := rfl
@[simp] theorem State.complete_cpu (s : State) (op : Byte) (n : Nat) (ret out : Option Word) : (s.complete op n ret out).cpu = s.cpu := rfl
@[simp] theorem State.complete_itc (s : State) (op : Byte) (n : Nat) (ret out : Option Word) : (s.complete op n ret out).itc = s.itc := rfl
@[simp] theorem State.complete_mem (s : State) (op : Byte) (n : Nat) (ret out : Option Word) : (s.complete op n ret out).mem = s.mem := rfl
@[simp] theorem State.complete_ctx (s : State) (op : Byte) (n : Nat) (ret out : Option Word) : (s.complete op n ret out).ctx = s.ctx := rfl
@[simp] theorem State.complete_saved (s : State) (op : Byte) (n : Nat) (ret out : Option Word) : (s.complete op n ret out).saved = s.saved := rfl
@[simp] theorem State.complete_fselPending (s : State) (op : Byte) (n : Nat) (ret out : Option Word) : (s.complete op n ret out).fselPending = s.fselPending := rfl
@[simp] theorem State.complete_lastError (s : State) (op : Byte) (n : Nat) (ret out : Option Word) : (s.complete op n ret out).lastError = s.lastError := rfl
@[simp] theorem State.complete_faults (s : State) (op : Byte) (n : Nat) (ret out : Option Word) : (s.complete op n ret out).faults = s.faults := rfl
@[simp] theorem State.complete_refusals (s : State) (op : Byte) (n : Nat) (ret out : Option Word) : (s.complete op n ret out).refusals = s.refusals := rfl
@[simp] theorem State.complete_params (s : State) (op : Byte) (n : Nat) (ret out : Option Word) : (s.complete op n ret out).params = s.params := rfl
@[simp] theorem State.complete_sched (s : State) (op : Byte) (n : Nat) (ret out : Option Word) : (s.complete op n ret out).sched = s.sched := rfl
@[simp] theorem State.complete_slice (s : State) (op : Byte) (n : Nat) (ret out : Option Word) : (s.complete op n ret out).slice = s.slice := rfl
@[simp] theorem State.complete_draws (s : State) (op : Byte) (n : Nat) (ret out : Option Word) : (s.complete op n ret out).draws = s.draws := rfl

/-! ### `State.errReturn` -/

@[simp] theorem State.errReturn_gpio (s : State) : s.errReturn.gpio = s.gpio := rfl
@[simp] theorem State.errReturn_uart (s : State) : s.errReturn.uart = s.uart := rfl
@[simp] theorem State.errReturn_cb (s : State) : s.errReturn.cb = s.cb := rfl
@[simp] theorem State.errReturn_cpu (s : State) : s.errReturn.cpu = s.cpu := rfl
@[simp] theorem State.errReturn_itc (s : State) : s.errReturn.itc = s.itc := rfl
@[simp] theorem State.errReturn_mem (s : State) : s.errReturn.mem = s.mem := rfl
@[simp] theorem State.errReturn_ctx (s : State) : s.errReturn.ctx = s.ctx := rfl
@[simp] theorem State.errReturn_saved (s : State) : s.errReturn.saved = s.saved := rfl
@[simp] theorem State.errReturn_fselPending (s : State) : s.errReturn.fselPending = s.fselPending := rfl
@[simp] theorem State.errReturn_faults (s : State) : s.errReturn.faults = s.faults := rfl
@[simp] theorem State.errReturn_refusals (s : State) : s.errReturn.refusals = s.refusals := rfl
@[simp] theorem State.errReturn_history (s : State) : s.errReturn.history = s.history := rfl
@[simp] theorem State.errReturn_params (s : State) : s.errReturn.params = s.params := rfl
@[simp] theorem State.errReturn_sched (s : State) : s.errReturn.sched = s.sched := rfl
@[simp] theorem State.errReturn_slice (s : State) : s.errReturn.slice = s.slice := rfl

/-! ### `State.recordFault` -/

@[simp] theorem State.recordFault_gpio (s : State) (k : Fault) : (s.recordFault k).gpio = s.gpio := rfl
@[simp] theorem State.recordFault_uart (s : State) (k : Fault) : (s.recordFault k).uart = s.uart := rfl
@[simp] theorem State.recordFault_cb (s : State) (k : Fault) : (s.recordFault k).cb = s.cb := rfl
@[simp] theorem State.recordFault_cpu (s : State) (k : Fault) : (s.recordFault k).cpu = s.cpu := rfl
@[simp] theorem State.recordFault_itc (s : State) (k : Fault) : (s.recordFault k).itc = s.itc := rfl
@[simp] theorem State.recordFault_mem (s : State) (k : Fault) : (s.recordFault k).mem = s.mem := rfl
@[simp] theorem State.recordFault_cur (s : State) (k : Fault) : (s.recordFault k).cur = s.cur := rfl
@[simp] theorem State.recordFault_ctx (s : State) (k : Fault) : (s.recordFault k).ctx = s.ctx := rfl
@[simp] theorem State.recordFault_saved (s : State) (k : Fault) : (s.recordFault k).saved = s.saved := rfl
@[simp] theorem State.recordFault_fselPending (s : State) (k : Fault) : (s.recordFault k).fselPending = s.fselPending := rfl
@[simp] theorem State.recordFault_lastError (s : State) (k : Fault) : (s.recordFault k).lastError = s.lastError := rfl
@[simp] theorem State.recordFault_refusals (s : State) (k : Fault) : (s.recordFault k).refusals = s.refusals := rfl
@[simp] theorem State.recordFault_params (s : State) (k : Fault) : (s.recordFault k).params = s.params := rfl
@[simp] theorem State.recordFault_sched (s : State) (k : Fault) : (s.recordFault k).sched = s.sched := rfl
@[simp] theorem State.recordFault_slice (s : State) (k : Fault) : (s.recordFault k).slice = s.slice := rfl
@[simp] theorem State.recordFault_draws (s : State) (k : Fault) : (s.recordFault k).draws = s.draws := rfl

/-! ### `State.recordRefusal` -/

@[simp] theorem State.recordRefusal_gpio (s : State) (r : Refusal) : (s.recordRefusal r).gpio = s.gpio := rfl
@[simp] theorem State.recordRefusal_uart (s : State) (r : Refusal) : (s.recordRefusal r).uart = s.uart := rfl
@[simp] theorem State.recordRefusal_cb (s : State) (r : Refusal) : (s.recordRefusal r).cb = s.cb := rfl
@[simp] theorem State.recordRefusal_cpu (s : State) (r : Refusal) : (s.recordRefusal r).cpu = s.cpu := rfl
@[simp] theorem State.recordRefusal_itc (s : State) (r : Refusal) : (s.recordRefusal r).itc = s.itc := rfl
@[simp] theorem State.recordRefusal_mem (s : State) (r : Refusal) : (s.recordRefusal r).mem = s.mem := rfl
@[simp] theorem State.recordRefusal_cur (s : State) (r : Refusal) : (s.recordRefusal r).cur = s.cur := rfl
@[simp] theorem State.recordRefusal_ctx (s : State) (r : Refusal) : (s.recordRefusal r).ctx = s.ctx := rfl
@[simp] theorem State.recordRefusal_saved (s : State) (r : Refusal) : (s.recordRefusal r).saved = s.saved := rfl
@[simp] theorem State.recordRefusal_fselPending (s : State) (r : Refusal) : (s.recordRefusal r).fselPending = s.fselPending := rfl
@[simp] theorem State.recordRefusal_lastError (s : State) (r : Refusal) : (s.recordRefusal r).lastError = s.lastError := rfl
@[simp] theorem State.recordRefusal_faults (s : State) (r : Refusal) : (s.recordRefusal r).faults = s.faults := rfl
@[simp] theorem State.recordRefusal_params (s : State) (r : Refusal) : (s.recordRefusal r).params = s.params := rfl
@[simp] theorem State.recordRefusal_sched (s : State) (r : Refusal) : (s.recordRefusal r).sched = s.sched := rfl
@[simp] theorem State.recordRefusal_slice (s : State) (r : Refusal) : (s.recordRefusal r).slice = s.slice := rfl
@[simp] theorem State.recordRefusal_draws (s : State) (r : Refusal) : (s.recordRefusal r).draws = s.draws := rfl

/-! ### `State.takeInterrupt` -/

@[simp] theorem State.takeInterrupt_gpio (s : State) (src : Nat) (i : Uid) : (s.takeInterrupt src i).gpio = s.gpio := rfl
@[simp] theorem State.takeInterrupt_uart (s : State) (src : Nat) (i : Uid) : (s.takeInterrupt src i).uart = s.uart := rfl
@[simp] theorem State.takeInterrupt_cb (s : State) (src : Nat) (i : Uid) : (s.takeInterrupt src i).cb = s.cb := rfl
@[simp] theorem State.takeInterrupt_itc (s : State) (src : Nat) (i : Uid) : (s.takeInterrupt src i).itc = s.itc := rfl
@[simp] theorem State.takeInterrupt_mem (s : State) (src : Nat) (i : Uid) : (s.takeInterrupt src i).mem = s.mem := rfl
@[simp] theorem State.takeInterrupt_fselPending (s : State) (src : Nat) (i : Uid) : (s.takeInterrupt src i).fselPending = s.fselPending := rfl
@[simp] theorem State.takeInterrupt_lastError (s : State) (src : Nat) (i : Uid) : (s.takeInterrupt src i).lastError = s.lastError := rfl
@[simp] theorem State.takeInterrupt_faults (s : State) (src : Nat) (i : Uid) : (s.takeInterrupt src i).faults = s.faults := rfl
@[simp] theorem State.takeInterrupt_refusals (s : State) (src : Nat) (i : Uid) : (s.takeInterrupt src i).refusals = s.refusals := rfl
@[simp] theorem State.takeInterrupt_params (s : State) (src : Nat) (i : Uid) : (s.takeInterrupt src i).params = s.params := rfl
@[simp] theorem State.takeInterrupt_sched (s : State) (src : Nat) (i : Uid) : (s.takeInterrupt src i).sched = s.sched := rfl
@[simp] theorem State.takeInterrupt_slice (s : State) (src : Nat) (i : Uid) : (s.takeInterrupt src i).slice = s.slice := rfl
@[simp] theorem State.takeInterrupt_draws (s : State) (src : Nat) (i : Uid) : (s.takeInterrupt src i).draws = s.draws := rfl

/-! ### `State.leaveCallback` -/

@[simp] theorem State.leaveCallback_gpio (s : State) : s.leaveCallback.gpio = s.gpio := rfl
@[simp] theorem State.leaveCallback_uart (s : State) : s.leaveCallback.uart = s.uart := rfl
@[simp] theorem State.leaveCallback_cb (s : State) : s.leaveCallback.cb = s.cb := rfl
@[simp] theorem State.leaveCallback_cpu (s : State) : s.leaveCallback.cpu = s.cpu := rfl
@[simp] theorem State.leaveCallback_itc (s : State) : s.leaveCallback.itc = s.itc := rfl
@[simp] theorem State.leaveCallback_mem (s : State) : s.leaveCallback.mem = s.mem := rfl
@[simp] theorem State.leaveCallback_ctx (s : State) : s.leaveCallback.ctx = s.ctx := rfl
@[simp] theorem State.leaveCallback_saved (s : State) : s.leaveCallback.saved = s.saved := rfl
@[simp] theorem State.leaveCallback_fselPending (s : State) : s.leaveCallback.fselPending = s.fselPending := rfl
@[simp] theorem State.leaveCallback_lastError (s : State) : s.leaveCallback.lastError = s.lastError := rfl
@[simp] theorem State.leaveCallback_faults (s : State) : s.leaveCallback.faults = s.faults := rfl
@[simp] theorem State.leaveCallback_refusals (s : State) : s.leaveCallback.refusals = s.refusals := rfl
@[simp] theorem State.leaveCallback_history (s : State) : s.leaveCallback.history = s.history := rfl
@[simp] theorem State.leaveCallback_params (s : State) : s.leaveCallback.params = s.params := rfl
@[simp] theorem State.leaveCallback_sched (s : State) : s.leaveCallback.sched = s.sched := rfl
@[simp] theorem State.leaveCallback_slice (s : State) : s.leaveCallback.slice = s.slice := rfl
@[simp] theorem State.leaveCallback_draws (s : State) : s.leaveCallback.draws = s.draws := rfl

/-! ### `State.notePending` -/

@[simp] theorem State.notePending_gpio (s : State) (k : Four) (v : Word) : (s.notePending k v).gpio = s.gpio := by unfold State.notePending; split <;> rfl
@[simp] theorem State.notePending_uart (s : State) (k : Four) (v : Word) : (s.notePending k v).uart = s.uart := by unfold State.notePending; split <;> rfl
@[simp] theorem State.notePending_cb (s : State) (k : Four) (v : Word) : (s.notePending k v).cb = s.cb := by unfold State.notePending; split <;> rfl
@[simp] theorem State.notePending_cpu (s : State) (k : Four) (v : Word) : (s.notePending k v).cpu = s.cpu := by unfold State.notePending; split <;> rfl
@[simp] theorem State.notePending_itc (s : State) (k : Four) (v : Word) : (s.notePending k v).itc = s.itc := by unfold State.notePending; split <;> rfl
@[simp] theorem State.notePending_mem (s : State) (k : Four) (v : Word) : (s.notePending k v).mem = s.mem := by unfold State.notePending; split <;> rfl
@[simp] theorem State.notePending_cur (s : State) (k : Four) (v : Word) : (s.notePending k v).cur = s.cur := by unfold State.notePending; split <;> rfl
@[simp] theorem State.notePending_ctx (s : State) (k : Four) (v : Word) : (s.notePending k v).ctx = s.ctx := by unfold State.notePending; split <;> rfl
@[simp] theorem State.notePending_saved (s : State) (k : Four) (v : Word) : (s.notePending k v).saved = s.saved := by unfold State.notePending; split <;> rfl
@[simp] theorem State.notePending_lastError (s : State) (k : Four) (v : Word) : (s.notePending k v).lastError = s.lastError := by unfold State.notePending; split <;> rfl
@[simp] theorem State.notePending_faults (s : State) (k : Four) (v : Word) : (s.notePending k v).faults = s.faults := by unfold State.notePending; split <;> rfl
@[simp] theorem State.notePending_refusals (s : State) (k : Four) (v : Word) : (s.notePending k v).refusals = s.refusals := by unfold State.notePending; split <;> rfl
@[simp] theorem State.notePending_history (s : State) (k : Four) (v : Word) : (s.notePending k v).history = s.history := by unfold State.notePending; split <;> rfl
@[simp] theorem State.notePending_params (s : State) (k : Four) (v : Word) : (s.notePending k v).params = s.params := by unfold State.notePending; split <;> rfl
@[simp] theorem State.notePending_sched (s : State) (k : Four) (v : Word) : (s.notePending k v).sched = s.sched := by unfold State.notePending; split <;> rfl
@[simp] theorem State.notePending_slice (s : State) (k : Four) (v : Word) : (s.notePending k v).slice = s.slice := by unfold State.notePending; split <;> rfl
@[simp] theorem State.notePending_draws (s : State) (k : Four) (v : Word) : (s.notePending k v).draws = s.draws := by unfold State.notePending; split <;> rfl

/-! ### `State.clearPending` -/

@[simp] theorem State.clearPending_gpio (s : State) : s.clearPending.gpio = s.gpio := by unfold State.clearPending; split <;> rfl
@[simp] theorem State.clearPending_uart (s : State) : s.clearPending.uart = s.uart := by unfold State.clearPending; split <;> rfl
@[simp] theorem State.clearPending_cb (s : State) : s.clearPending.cb = s.cb := by unfold State.clearPending; split <;> rfl
@[simp] theorem State.clearPending_cpu (s : State) : s.clearPending.cpu = s.cpu := by unfold State.clearPending; split <;> rfl
@[simp] theorem State.clearPending_itc (s : State) : s.clearPending.itc = s.itc := by unfold State.clearPending; split <;> rfl
@[simp] theorem State.clearPending_mem (s : State) : s.clearPending.mem = s.mem := by unfold State.clearPending; split <;> rfl
@[simp] theorem State.clearPending_cur (s : State) : s.clearPending.cur = s.cur := by unfold State.clearPending; split <;> rfl
@[simp] theorem State.clearPending_ctx (s : State) : s.clearPending.ctx = s.ctx := by unfold State.clearPending; split <;> rfl
@[simp] theorem State.clearPending_saved (s : State) : s.clearPending.saved = s.saved := by unfold State.clearPending; split <;> rfl
@[simp] theorem State.clearPending_lastError (s : State) : s.clearPending.lastError = s.lastError := by unfold State.clearPending; split <;> rfl
@[simp] theorem State.clearPending_faults (s : State) : s.clearPending.faults = s.faults := by unfold State.clearPending; split <;> rfl
@[simp] theorem State.clearPending_refusals (s : State) : s.clearPending.refusals = s.refusals := by unfold State.clearPending; split <;> rfl
@[simp] theorem State.clearPending_history (s : State) : s.clearPending.history = s.history := by unfold State.clearPending; split <;> rfl
@[simp] theorem State.clearPending_params (s : State) : s.clearPending.params = s.params := by unfold State.clearPending; split <;> rfl
@[simp] theorem State.clearPending_sched (s : State) : s.clearPending.sched = s.sched := by unfold State.clearPending; split <;> rfl
@[simp] theorem State.clearPending_slice (s : State) : s.clearPending.slice = s.slice := by unfold State.clearPending; split <;> rfl
@[simp] theorem State.clearPending_draws (s : State) : s.clearPending.draws = s.draws := by unfold State.clearPending; split <;> rfl

/-! ### `State.setMasks` -/

@[simp] theorem State.setMasks_gpio (s : State) (i f : Bool) : (s.setMasks i f).gpio = s.gpio := by unfold State.setMasks; split <;> rfl
@[simp] theorem State.setMasks_uart (s : State) (i f : Bool) : (s.setMasks i f).uart = s.uart := by unfold State.setMasks; split <;> rfl
@[simp] theorem State.setMasks_cb (s : State) (i f : Bool) : (s.setMasks i f).cb = s.cb := by unfold State.setMasks; split <;> rfl
@[simp] theorem State.setMasks_itc (s : State) (i f : Bool) : (s.setMasks i f).itc = s.itc := by unfold State.setMasks; split <;> rfl
@[simp] theorem State.setMasks_mem (s : State) (i f : Bool) : (s.setMasks i f).mem = s.mem := by unfold State.setMasks; split <;> rfl
@[simp] theorem State.setMasks_cur (s : State) (i f : Bool) : (s.setMasks i f).cur = s.cur := by unfold State.setMasks; split <;> rfl
@[simp] theorem State.setMasks_ctx (s : State) (i f : Bool) : (s.setMasks i f).ctx = s.ctx := by unfold State.setMasks; split <;> rfl
@[simp] theorem State.setMasks_saved (s : State) (i f : Bool) : (s.setMasks i f).saved = s.saved := by unfold State.setMasks; split <;> rfl
@[simp] theorem State.setMasks_fselPending (s : State) (i f : Bool) : (s.setMasks i f).fselPending = s.fselPending := by unfold State.setMasks; split <;> rfl
@[simp] theorem State.setMasks_lastError (s : State) (i f : Bool) : (s.setMasks i f).lastError = s.lastError := by unfold State.setMasks; split <;> rfl
@[simp] theorem State.setMasks_faults (s : State) (i f : Bool) : (s.setMasks i f).faults = s.faults := by unfold State.setMasks; split <;> rfl
@[simp] theorem State.setMasks_refusals (s : State) (i f : Bool) : (s.setMasks i f).refusals = s.refusals := by unfold State.setMasks; split <;> rfl
@[simp] theorem State.setMasks_history (s : State) (i f : Bool) : (s.setMasks i f).history = s.history := by unfold State.setMasks; split <;> rfl
@[simp] theorem State.setMasks_params (s : State) (i f : Bool) : (s.setMasks i f).params = s.params := by unfold State.setMasks; split <;> rfl
@[simp] theorem State.setMasks_sched (s : State) (i f : Bool) : (s.setMasks i f).sched = s.sched := by unfold State.setMasks; split <;> rfl
@[simp] theorem State.setMasks_slice (s : State) (i f : Bool) : (s.setMasks i f).slice = s.slice := by unfold State.setMasks; split <;> rfl
@[simp] theorem State.setMasks_draws (s : State) (i f : Bool) : (s.setMasks i f).draws = s.draws := by unfold State.setMasks; split <;> rfl

/-! ### `State.interruptReturn` -/

@[simp] theorem State.interruptReturn_gpio (s : State) : s.interruptReturn.gpio = s.gpio := by unfold State.interruptReturn; split <;> rfl
@[simp] theorem State.interruptReturn_uart (s : State) : s.interruptReturn.uart = s.uart := by unfold State.interruptReturn; split <;> rfl
@[simp] theorem State.interruptReturn_cb (s : State) : s.interruptReturn.cb = s.cb := by unfold State.interruptReturn; split <;> rfl
@[simp] theorem State.interruptReturn_itc (s : State) : s.interruptReturn.itc = s.itc := by unfold State.interruptReturn; split <;> rfl
@[simp] theorem State.interruptReturn_mem (s : State) : s.interruptReturn.mem = s.mem := by unfold State.interruptReturn; split <;> rfl
@[simp] theorem State.interruptReturn_fselPending (s : State) : s.interruptReturn.fselPending = s.fselPending := by unfold State.interruptReturn; split <;> rfl
@[simp] theorem State.interruptReturn_lastError (s : State) : s.interruptReturn.lastError = s.lastError := by unfold State.interruptReturn; split <;> rfl
@[simp] theorem State.interruptReturn_faults (s : State) : s.interruptReturn.faults = s.faults := by unfold State.interruptReturn; split <;> rfl
@[simp] theorem State.interruptReturn_refusals (s : State) : s.interruptReturn.refusals = s.refusals := by unfold State.interruptReturn; split <;> rfl
@[simp] theorem State.interruptReturn_params (s : State) : s.interruptReturn.params = s.params := by unfold State.interruptReturn; split <;> rfl
@[simp] theorem State.interruptReturn_sched (s : State) : s.interruptReturn.sched = s.sched := by unfold State.interruptReturn; split <;> rfl
@[simp] theorem State.interruptReturn_slice (s : State) : s.interruptReturn.slice = s.slice := by unfold State.interruptReturn; split <;> rfl
@[simp] theorem State.interruptReturn_draws (s : State) : s.interruptReturn.draws = s.draws := by unfold State.interruptReturn; split <;> rfl

/-! ### What the changed fields hold -/

@[simp] theorem State.setUart_uart (s : State) (i : Uid) (u : Uart) : (s.setUart i u).uart = s.uart.set i u := rfl
@[simp] theorem State.setCb_cb (s : State) (h : Nat) (b : Cb) : (s.setCb h b).cb = s.cb.set h b := rfl
@[simp] theorem State.setItc_itc (s : State) (src : Nat) (e : ItcEntry) : (s.setItc src e).itc = s.itc.set src e := rfl
@[simp] theorem State.emit_history (s : State) (e : Event) : (s.emit e).history = s.history ++ [e] := rfl
@[simp] theorem State.setRet_cur (s : State) (v : Word) : (s.setRet v).cur = { s.cur with ret := some v } := rfl
@[simp] theorem State.setTodo_cur (s : State) (fs : List Frame) : (s.setTodo fs).cur = { s.cur with todo := fs } := rfl
@[simp] theorem State.push_cur (s : State) (fs : List Frame) :
    (s.push fs).cur = { s.cur with todo := fs ++ s.cur.todo } := rfl
@[simp] theorem State.afterDraw_draws (s : State) : s.afterDraw.draws = s.draws + 1 := rfl
@[simp] theorem State.errReturn_lastError (s : State) : s.errReturn.lastError = .invalidParameter := rfl
@[simp] theorem State.errReturn_draws (s : State) : s.errReturn.draws = s.draws + 1 := rfl
@[simp] theorem State.errReturn_cur (s : State) :
    s.errReturn.cur = { s.cur with ret := some Config.errSentinel, out := some (Config.freeWord s.draws) } := rfl
@[simp] theorem State.takeInterrupt_ctx (s : State) (src : Nat) (i : Uid) : (s.takeInterrupt src i).ctx = .isr src := rfl
@[simp] theorem State.takeInterrupt_cpu (s : State) (src : Nat) (i : Uid) :
    (s.takeInterrupt src i).cpu = { s.cpu with i := true } := rfl
@[simp] theorem State.takeInterrupt_saved (s : State) (src : Nat) (i : Uid) :
    (s.takeInterrupt src i).saved = some ⟨s.cur, s.cpu.i, s.cpu.f⟩ := rfl
@[simp] theorem State.takeInterrupt_history (s : State) (src : Nat) (i : Uid) :
    (s.takeInterrupt src i).history = s.history ++ [.irqEnter src] := rfl
@[simp] theorem State.setTodo_setTodo (s : State) (fs gs : List Frame) : (s.setTodo fs).setTodo gs = s.setTodo gs := rfl
@[simp] theorem State.push_setTodo (s : State) (fs : List Frame) : (s.push fs).setTodo s.cur.todo = s := rfl
@[simp] theorem State.setTodo_self (s : State) : s.setTodo s.cur.todo = s := rfl

end Sys2Proof.Machine
end

