-- ==== Sys2Proof/Laws/Registers.lean ====
section
/-! SUPPORT. Everything a register access can do, said once. -/

namespace Sys2Proof.Machine

/-- If a register read answers, the context is privileged and the read did one of four things: nothing, a draw, the
clearing of the error flags, the removal of the receive FIFO's head. -/
theorem regRead_cases {s t : State} {r : Reg} {v : Word} (h : regRead s r = .ok (v, t)) :
    s.mode = .privileged ∧
    (t = s ∨ t = s.afterDraw ∨
      (∃ i, r = .ustat i ∧ v = statusWord s i ∧ t = s.setUart i { s.uart.get i with err := ErrFlags.clear }) ∨
      (∃ i b rest, r = .udata i ∧ (s.uart.get i).rxfifo = b :: rest ∧ v = zextByte b ∧
        t = s.setUart i { s.uart.get i with rxfifo := rest })) := by
  obtain ⟨hm, hr⟩ := privileged_eq_ok h
  clear h
  rename' hr => h
  refine ⟨hm, ?_⟩
  cases r <;> simp only [readRule, freeRead, Res.ok.injEq, Prod.mk.injEq, reduceCtorEq] at h
  case ustat i => exact .inr (.inr (.inl ⟨i, rfl, h.1.symm, h.2.symm⟩))
  case udata i =>
    unfold udataRead at h
    split at h
    · cases h
    · next b rest hb => cases h; exact .inr (.inr (.inr ⟨i, b, rest, rfl, hb, rfl, rfl⟩))
  all_goals first
    | exact .inl h.2.symm
    | exact .inr (.inl h.2.symm)

/-- If a register write succeeds, the context is privileged and the write changed the GPIO block or one UART, in one of
five ways. -/
theorem regWrite_cases {s t : State} {r : Reg} {v : Word} (h : regWrite s r v = .ok t) :
    s.mode = .privileged ∧
    ((∃ g, t = { s with gpio := g }) ∨
      (∃ i, r = .ucon i ∧ v &&& uconMustBeZero = 0 ∧ bitOf v 15 = false ∧
        t = s.setUart i { s.uart.get i with ucon := Ucon.ofWord v }) ∨
      (∃ i, r = .udata i ∧ (s.uart.get i).txfifo.length < s.params.txFifoDepth ∧
        t = s.setUart i { s.uart.get i with txfifo := (s.uart.get i).txfifo ++ [lowByte v] }) ∨
      (∃ i, r = .urxcon i ∧ t = s.setUart i { s.uart.get i with rxThr := v.extractLsb' 0 6 }) ∨
      (∃ i, r = .utxcon i ∧ t = s.setUart i { s.uart.get i with txThr := v.extractLsb' 0 6 }) ∨
      (∃ i, r = .ubrcnt i ∧
        t = s.setUart i { s.uart.get i with ubrInc := v.extractLsb' 16 16, ubrMod := v.extractLsb' 0 16 })) := by
  obtain ⟨hm, hr⟩ := privileged_eq_ok h
  clear h
  rename' hr => h
  refine ⟨hm, ?_⟩
  cases r <;> simp only [writeRule, Res.ok.injEq, reduceCtorEq] at h
  case funcSel k =>
    unfold funcSelWrite at h
    split at h
    · cases h
    · split at h
      · cases h
      · cases h; exact .inl ⟨_, rfl⟩
  case ucon i =>
    unfold uconWrite at h
    split at h
    · cases h
    · next h0 =>
      split at h
      · cases h
      · next h1 => cases h; exact .inr (.inl ⟨i, rfl, not_not.mp h0, by simpa using h1, rfl⟩)
  case udata i =>
    unfold udataWrite at h
    split at h
    · next hl => cases h; exact .inr (.inr (.inl ⟨i, rfl, hl, rfl⟩))
    · cases h
  case urxcon i => exact .inr (.inr (.inr (.inl ⟨i, rfl, h.symm⟩)))
  case utxcon i => exact .inr (.inr (.inr (.inr (.inl ⟨i, rfl, h.symm⟩))))
  case ubrcnt i => exact .inr (.inr (.inr (.inr (.inr ⟨i, rfl, h.symm⟩))))
  all_goals exact .inl ⟨_, h.symm⟩

/-- In privileged mode a register access is its register's rule. -/
theorem regRead_privileged {s : State} (r : Reg) (h : s.mode = .privileged) : regRead s r = readRule s r :=
  privileged_of h

theorem regWrite_privileged {s : State} (r : Reg) (v : Word) (h : s.mode = .privileged) :
    regWrite s r v = writeRule s v r :=
  privileged_of h

/-- In unprivileged mode every register access faults. -/
theorem regRead_unprivileged {s : State} (r : Reg) (h : s.mode = .unprivileged) :
    regRead s r = .fault .unprivilegedMmio := by
  simp [regRead, privileged, h]

theorem regWrite_unprivileged {s : State} (r : Reg) (v : Word) (h : s.mode = .unprivileged) :
    regWrite s r v = .fault .unprivilegedMmio := by
  simp [regWrite, privileged, h]

/-- A register's address is in its window, aligned, and names that register. -/
theorem regAt_addr (r : Reg) : regAt r.addr = some r ∧ inWindow r.addr = true ∧ r.addr.toNat % 4 = 0 := by
  cases r with
  | funcSel n => cases n <;> decide
  | _ n => cases n <;> decide

/-- The register an address names has that address. -/
theorem addr_of_regAt {a : Word} {r : Reg} (h : regAt a = some r) : r.addr = a := by
  have := List.find?_some h
  simpa using this

/-- A bus access to a register's address in privileged mode reaches that register. -/
theorem busTarget_addr {s : State} (r : Reg) (h : s.mode = .privileged) : busTarget s r.addr = .ok r := by
  obtain ⟨h1, h2, h3⟩ := regAt_addr r
  simp [busTarget, h1, h2, h3, privileged_of h]

end Sys2Proof.Machine
end

