-- ==== Sys2Proof/Laws/Run.lean ====
section
/-! SUPPORT. Running an operation: what a command does whose only step before completion succeeds, and how a fact that
every atomic step keeps is kept by a run of them. -/

namespace Sys2Proof.Machine

@[simp] theorem goOn_zero (s : State) : goOn 0 s = s := rfl

theorem goOn_succ (n : Nat) (s : State) : goOn (n + 1) s = match atomic s with
    | .go s' => goOn n s'
    | .rest s' => s'
    | .fault _ => s
    | .refused _ => s := rfl

theorem atomic_push (s : State) (f : Frame) (fs : List Frame) :
    atomic (s.push (f :: fs)) = frame f (s.push fs) := rfl

/-- With a step left, an operation whose next step is its completion completes. -/
theorem goOn_finish (n : Nat) (s : State) (op : Byte) (k : Nat) (ret out : Option Word) :
    goOn (n + 1) (s.push [.finish op k ret out]) = s.complete op k ret out := rfl

/-- At a command boundary, a command whose first step is done and whose next is its completion completes, where the
slice has a step for it. -/
theorem operation_completes {s s' : State} {op : Byte} {k : Nat} {ret out : Option Word} {x : Res Start}
    (ha : s.atStart = true) (hs : 1 ≤ s.slice) (hx : x = .ok (.did s' [.finish op k ret out])) :
    operation s x = .next (s'.complete op k ret out) := by
  obtain ⟨n, hn⟩ : ∃ n, s.slice = n + 1 := ⟨s.slice - 1, by omega⟩
  simp [operation, ha, hx, hn, goOn_finish]

/-- A one-step command that succeeds completes. -/
theorem oneStep_completes {s s' : State} {op : Byte} {k : Nat} {ret : Word} {x : Res State}
    (ha : s.atStart = true) (hs : 1 ≤ s.slice) (hx : x = .ok s') :
    operation s (oneStep op k ret x) = .next (s'.complete op k (some ret) none) :=
  operation_completes ha hs (by simp [oneStep, hx])

/-- An error return completes. -/
theorem errStart_completes {s : State} {op : Byte} {k : Nat} (ha : s.atStart = true) (hs : 1 ≤ s.slice) :
    operation s (errStart s op k) = .next (s.errReturn.complete op k none none) :=
  operation_completes ha hs rfl

/-- At a command boundary, a check that faults is the outcome. -/
theorem operation_fault {s : State} {k : Fault} (ha : s.atStart = true) : operation s (.fault k) = .fault k := by
  simp [operation, ha]

/-- At a command boundary, a refusal is the outcome. -/
theorem operation_refused {s : State} {r : Refusal} (ha : s.atStart = true) :
    operation s (.refused r) = .refused r := by
  simp [operation, ha]

/-- At a command boundary, a command that only takes frames runs them. -/
theorem operation_go {s : State} {fs : List Frame} (ha : s.atStart = true) :
    operation s (.ok (.go fs)) = burst (s.push fs) := by
  simp [operation, ha]

/-- A fact that every atomic step keeps is kept by any number of them. -/
theorem goOn_keeps {P : State → Prop}
    (hgo : ∀ s t, P s → atomic s = .go t → P t) (hrest : ∀ s t, P s → atomic s = .rest t → P t) :
    ∀ n s, P s → P (goOn n s) := by
  intro n
  induction n with
  | zero => intro s hs; exact hs
  | succ n ih =>
    intro s hs
    rw [goOn_succ]
    cases h : atomic s with
    | go t => exact ih t (hgo s t hs h)
    | rest t => exact hrest s t hs h
    | fault k => exact hs
    | refused r => exact hs

/-- A fact that every atomic step keeps is kept by a burst. -/
theorem burst_keeps {P : State → Prop}
    (hgo : ∀ s t, P s → atomic s = .go t → P t) (hrest : ∀ s t, P s → atomic s = .rest t → P t)
    {s t : State} (hs : P s) (h : burst s = .next t) : P t := by
  unfold burst at h
  cases ha : atomic s with
  | go u =>
    rw [ha] at h
    cases h
    exact goOn_keeps hgo hrest _ _ (hgo s u hs ha)
  | rest u =>
    rw [ha] at h
    cases h
    exact hrest s t hs ha
  | fault k => simp [ha] at h
  | refused r => simp [ha] at h

end Sys2Proof.Machine
end

