-- ==== Sys2Proof/Laws/Closed.lean ====
section
/-! SUPPORT. What a step can do, said once: a fact that each of the machine's primitive updates keeps is kept by every
step of the machine. An invariant is proved by giving its `StepClosed`; what only the running context's own steps must
keep, by giving its `RunClosed`. -/

namespace Sys2Proof.Machine

/-- The primitive updates that the atomic steps of a program or of an ISR are made of keep the fact `P`. -/
structure RunClosed (P : State → Prop) : Prop where
  todo : ∀ s fs, P s → P (s.setTodo fs)
  ret : ∀ s v, P s → P (s.setRet v)
  complete : ∀ s op n ret out, P s → P (s.complete op n ret out)
  err : ∀ s, P s → P s.errReturn
  draw : ∀ s, P s → P s.afterDraw
  note : ∀ s k v, P s → P (s.notePending k v)
  clear : ∀ s, P s → P s.clearPending
  gpio : ∀ s g, P s → P { s with gpio := g }
  errFlags : ∀ s i, P s → P (s.setUart i { s.uart.get i with err := ErrFlags.clear })
  rxPop : ∀ s i b rest, (s.uart.get i).rxfifo = b :: rest → P s → P (s.setUart i { s.uart.get i with rxfifo := rest })
  ucon : ∀ s i v, P s → P (s.setUart i { s.uart.get i with ucon := Ucon.ofWord v })
  txPush : ∀ s i b, (s.uart.get i).txfifo.length < s.params.txFifoDepth → P s →
    P (s.setUart i { s.uart.get i with txfifo := (s.uart.get i).txfifo ++ [b] })
  rxThr : ∀ s i v, P s → P (s.setUart i { s.uart.get i with rxThr := v })
  txThr : ∀ s i v, P s → P (s.setUart i { s.uart.get i with txThr := v })
  ubr : ∀ s i a b, P s → P (s.setUart i { s.uart.get i with ubrInc := a, ubrMod := b })
  rxCb : ∀ s i h, P s → P (s.setUart i { s.uart.get i with rxCb := h })
  txCb : ∀ s i h, P s → P (s.setUart i { s.uart.get i with txCb := h })
  register : ∀ s i name, P s →
    P ((s.emit (.registered i name)).setUart i { s.uart.get i with ustate := .initialized })
  masks : ∀ s i f, P s → P (s.setMasks i f)
  handlers : ∀ s t, P s → P { s with cpu := { s.cpu with handlers := t } }
  cbInit : ∀ s h a cap, h < s.cb.length → 0 < cap → P s → P (s.setCb h ⟨true, cap, a, 0, 0, 0, []⟩)
  cbPut : ∀ s h b v, s.cb[h]? = some b → b.valid = true → b.full = false → P s → P (s.setCb h (b.put v))
  cbDrop : ∀ s h b, s.cb[h]? = some b → b.valid = true → b.empty = false → P s → P (s.setCb h b.drop)
  store : ∀ s a v, inRam a = true → P s → P { s with mem := s.mem.set a v }
  itcPrio : ∀ s src e, s.itc[src]? = some e → P s → P (s.setItc src { e with prio := .normal })
  itcHandler : ∀ s src e h, s.itc[src]? = some e → P s → P (s.setItc src { e with handler := h })
  itcEnable : ∀ s src e, s.itc[src]? = some e → P s → P (s.setItc src { e with enabled := true })
  invoke : ∀ s i d h fs, P s → P { s.emit (.callbackInvoked i d h) with cur := ⟨0, none, none, fs⟩ }
  leave : ∀ s, P s → P s.interruptReturn

namespace RunClosed

variable {P : State → Prop} (c : RunClosed P)

include c

theorem push {s : State} (fs : List Frame) (h : P s) : P (s.push fs) := c.todo _ _ h

theorem read {s t : State} {r : Reg} {v : Word} (hr : regRead s r = .ok (v, t)) (h : P s) : P t := by
  obtain ⟨-, rfl | rfl | ⟨i, -, -, rfl⟩ | ⟨i, b, rest, -, hb, -, rfl⟩⟩ := regRead_cases hr
  · exact h
  · exact c.draw _ h
  · exact c.errFlags _ _ h
  · exact c.rxPop _ _ _ _ hb h

theorem write {s t : State} {r : Reg} {v : Word} (hr : regWrite s r v = .ok t) (h : P s) : P t := by
  obtain ⟨-, ⟨g, rfl⟩ | ⟨i, -, -, -, rfl⟩ | ⟨i, -, hl, rfl⟩ | ⟨i, -, rfl⟩ | ⟨i, -, rfl⟩ | ⟨i, -, rfl⟩⟩ := regWrite_cases hr
  · exact c.gpio _ _ h
  · exact c.ucon _ _ _ h
  · exact c.txPush _ _ _ hl h
  · exact c.rxThr _ _ _ h
  · exact c.txThr _ _ _ h
  · exact c.ubr _ _ _ _ h

theorem initBuffer {s t : State} {n : Nat} {a : Word} {cap : Nat} (hr : Machine.cbInit s n a cap = .ok t) (h : P s) :
    P t := by
  obtain ⟨hn, hc, rfl⟩ := cbInit_eq_ok hr
  exact c.cbInit _ _ _ _ hn hc h

theorem writeBuffer {s t : State} {n : Nat} {v : Byte} (hr : cbWrite s n v = .ok t) (h : P s) : P t := by
  obtain ⟨b, hb, hf, rfl⟩ := cbWrite_eq_ok hr
  obtain ⟨hg, hv, -⟩ := bufferAt_eq_ok.mp hb
  exact c.cbPut _ _ _ _ hg hv hf h

theorem readBuffer {s t : State} {n : Nat} {v : Byte} (hr : cbRead s n = .ok (v, t)) (h : P s) : P t := by
  obtain ⟨b, hb, he, -, rfl⟩ := cbRead_eq_ok hr
  obtain ⟨hg, hv, -⟩ := bufferAt_eq_ok.mp hb
  exact c.cbDrop _ _ _ hg hv he h

theorem storeByte {s t : State} {a : Word} {v : Byte} (hr : memWrite s a v = .ok t) (h : P s) : P t := by
  obtain ⟨hi, rfl⟩ := memWrite_spec hr
  exact c.store _ _ _ hi h

theorem priority {s t : State} {src level : Nat} (hr : itcSetPriority s src level = .ok t) (h : P s) : P t := by
  obtain ⟨e, he, rfl⟩ := itcSetPriority_eq_ok hr
  exact c.itcPrio _ _ _ he h

theorem handler {s t : State} {src : Nat} {u : Option Uid} (hr : itcSetHandler s src u = .ok t) (h : P s) : P t := by
  obtain ⟨e, he, rfl⟩ := itcSetHandler_eq_ok hr
  exact c.itcHandler _ _ _ _ he h

theorem enable {s t : State} {src : Nat} (hr : itcEnableInterrupt s src = .ok t) (h : P s) : P t := by
  obtain ⟨e, he, rfl⟩ := itcEnableInterrupt_eq_ok hr
  exact c.itcEnable _ _ _ he h

/-- The frame's step keeps the fact, whether the context goes on or gives way. -/
theorem frame {f : Frame} {s t : State} (hf : Machine.frame f s = .go t ∨ Machine.frame f s = .rest t) (h : P s) :
    P t := by
  have ofRes : ∀ {x : Res State}, (Micro.ofRes x = .go t ∨ Micro.ofRes x = .rest t) → x = .ok t := by
    intro x hx
    cases x with
    | ok u => simpa [Micro.ofRes] using hx
    | fault k => simp [Micro.ofRes] at hx
    | refused r => simp [Micro.ofRes] at hx
  cases f <;> simp only [Machine.frame] at hf
  case finish op n ret out =>
    rcases hf with hf | hf <;> cases hf
    exact c.complete _ _ _ _ _ h
  case regWrite r v => exact c.write (ofRes hf) h
  case funcRead k fm fv =>
    obtain ⟨⟨v, u⟩, hr, rfl⟩ := Res.map_eq_ok (ofRes hf)
    exact c.push _ (c.note _ _ _ (c.read hr h))
  case funcWrite k v =>
    obtain ⟨u, hr, rfl⟩ := Res.map_eq_ok (ofRes hf)
    exact c.clear _ (c.write hr h)
  case initBuffer n cap =>
    obtain ⟨u, hr, rfl⟩ := Res.map_eq_ok (ofRes hf)
    exact c.draw _ (c.initBuffer hr h)
  case initPriority src => exact c.priority (ofRes hf) h
  case initHandler src i => exact c.handler (ofRes hf) h
  case initEnable src => exact c.enable (ofRes hf) h
  case initCallbacks i =>
    rcases hf with hf | hf <;> cases hf
    have h' := c.txCb _ i 0 (c.rxCb s i 0 h)
    simpa [State.setUart] using h'
  case initRegister i name =>
    rcases hf with hf | hf <;> cases hf
    exact c.register _ _ _ h
  case waitTx i =>
    cases hr : regRead s (.utxcon i) with
    | ok x =>
      rw [hr] at hf
      have hx : P x.2 := c.read (v := x.1) (t := x.2) hr h
      by_cases hz : x.1 = 0 <;> simp only [hz, ↓reduceIte] at hf <;> rcases hf with hf | hf <;> cases hf
      · exact c.push _ hx
      · exact hx
    | fault k => rw [hr] at hf; rcases hf with hf | hf <;> cases hf
    | refused k => rw [hr] at hf; rcases hf with hf | hf <;> cases hf
  case waitRx i =>
    cases hr : regRead s (.urxcon i) with
    | ok x =>
      rw [hr] at hf
      have hx : P x.2 := c.read (v := x.1) (t := x.2) hr h
      by_cases hz : x.1 = 0 <;> simp only [hz, ↓reduceIte] at hf <;> rcases hf with hf | hf <;> cases hf
      · exact c.push _ hx
      · exact hx
    | fault k => rw [hr] at hf; rcases hf with hf | hf <;> cases hf
    | refused k => rw [hr] at hf; rcases hf with hf | hf <;> cases hf
  case sendByteDrain i b saved =>
    obtain ⟨e, hr, rfl⟩ := Res.map_eq_ok (ofRes hf)
    exact c.push _ h
  case recvByteTest i saved =>
    obtain ⟨e, hr, rfl⟩ := Res.map_eq_ok (ofRes hf)
    exact c.push _ h
  case sendTest i buf count n =>
    obtain ⟨e, hr, rfl⟩ := Res.map_eq_ok (ofRes hf)
    exact c.push _ h
  case sendLoad i buf count n =>
    obtain ⟨e, hr, rfl⟩ := Res.map_eq_ok (ofRes hf)
    exact c.push _ h
  case sendPut i buf count n b =>
    obtain ⟨u, hr, rfl⟩ := Res.map_eq_ok (ofRes hf)
    exact c.push _ (c.writeBuffer hr h)
  case recvTest i buf count n =>
    obtain ⟨e, hr, rfl⟩ := Res.map_eq_ok (ofRes hf)
    exact c.push _ h
  case recvStore i buf count n b =>
    obtain ⟨u, hr, rfl⟩ := Res.map_eq_ok (ofRes hf)
    exact c.push _ (c.storeByte hr h)
  case isrRxTest i st =>
    obtain ⟨e, hr, rfl⟩ := Res.map_eq_ok (ofRes hf)
    exact c.push _ h
  case isrRxPut i st b =>
    obtain ⟨u, hr, rfl⟩ := Res.map_eq_ok (ofRes hf)
    exact c.push _ (c.writeBuffer hr h)
  case isrRxCall i st =>
    rcases hf with hf | hf <;> cases hf
    exact c.push _ h
  case isrRxEnd i st =>
    obtain ⟨e, hr, rfl⟩ := Res.map_eq_ok (ofRes hf)
    exact c.push _ h
  case isrTxTest i =>
    obtain ⟨e, hr, rfl⟩ := Res.map_eq_ok (ofRes hf)
    exact c.push _ h
  case isrTxCall i =>
    rcases hf with hf | hf <;> cases hf
    exact c.push _ h
  case isrTxEnd i =>
    obtain ⟨e, hr, rfl⟩ := Res.map_eq_ok (ofRes hf)
    exact c.push _ h
  case invoke i d n =>
    rcases hf with hf | hf <;> cases hf
    exact c.invoke _ _ _ _ _ h
  case callback n =>
    rcases hf with hf | hf <;> cases hf
    exact c.push _ h
  case isrReturn =>
    rcases hf with hf | hf <;> cases hf
    exact c.leave _ h
  case popToUdata i =>
    obtain ⟨⟨v, u⟩, hr, rfl⟩ := Res.map_eq_ok (ofRes hf)
    exact c.push _ (c.readBuffer hr h)
  case recvBytePop i saved =>
    obtain ⟨⟨v, u⟩, hr, rfl⟩ := Res.map_eq_ok (ofRes hf)
    exact c.push _ (c.readBuffer hr h)
  case recvPop i buf count n =>
    obtain ⟨⟨v, u⟩, hr, rfl⟩ := Res.map_eq_ok (ofRes hf)
    exact c.push _ (c.readBuffer hr h)
  all_goals
    obtain ⟨⟨v, u⟩, hr, rfl⟩ := Res.map_eq_ok (ofRes hf)
    exact c.push _ (c.read hr h)

/-- The next atomic step of the running context keeps the fact. -/
theorem atomic {s t : State} (ha : Machine.atomic s = .go t ∨ Machine.atomic s = .rest t) (h : P s) : P t := by
  unfold Machine.atomic at ha
  split at ha
  · rcases ha with ha | ha <;> cases ha
    exact h
  · exact c.frame ha (c.todo _ _ h)

theorem goOn (n : Nat) {s : State} (h : P s) : P (Machine.goOn n s) :=
  goOn_keeps (fun _ _ hs ha => c.atomic (.inl ha) hs) (fun _ _ hs ha => c.atomic (.inr ha) hs) n s h

theorem burst {s t : State} (hb : Machine.burst s = .next t) (h : P s) : P t :=
  burst_keeps (fun _ _ hs ha => c.atomic (.inl ha) hs) (fun _ _ hs ha => c.atomic (.inr ha) hs) h hb

/-- A command keeps the fact, where its first step does. -/
theorem operation {s t : State} {x : Res Start} (ho : Machine.operation s x = .next t)
    (hx : ∀ u fs, x = .ok (.did u fs) → P u) (h : P s) : P t := by
  unfold Machine.operation at ho
  split at ho
  · cases x with
    | ok st =>
      cases st with
      | did u fs =>
        cases ho
        exact c.goOn _ (c.push _ (hx u fs rfl))
      | go fs => exact c.burst ho (c.push _ h)
    | fault k => cases ho
    | refused r => cases ho
  · exact c.burst ho h

theorem oneStep {s t : State} {op : Byte} {n : Nat} {v : Word} {x : Res State}
    (ho : Machine.operation s (Machine.oneStep op n v x) = .next t) (hx : ∀ u, x = .ok u → P u) (h : P s) : P t := by
  refine c.operation ho ?_ h
  intro u fs hu
  obtain ⟨w, hw, he⟩ := Res.map_eq_ok hu
  cases he
  exact hx _ hw

theorem errStart {s t : State} {op : Byte} {n : Nat} (ho : Machine.operation s (Machine.errStart s op n) = .next t)
    (h : P s) : P t := by
  refine c.operation ho ?_ h
  intro u fs hu
  cases hu
  exact c.err _ h

theorem readRegister {s t : State} {r : Reg} (ho : Machine.readRegister s r = .next t) (h : P s) : P t := by
  refine c.operation ho ?_ h
  intro u fs hu
  obtain ⟨⟨v, w⟩, hw, he⟩ := Res.map_eq_ok hu
  cases he
  exact c.ret _ _ (c.read hw h)

theorem writeRegister {s t : State} {r : Reg} {v : Word} (ho : Machine.writeRegister s r v = .next t) (h : P s) :
    P t :=
  c.oneStep ho (fun _ hu => c.write hu h) h

/-- Every instruction keeps the fact. -/
theorem exec {i : Instr} {s t : State} (he : Machine.exec i s = .next t) (h : P s) : P t := by
  cases i
  case gpioSetPortDir port mask dir =>
    simp only [Machine.exec, execGpioSetPortDir] at he
    cases hp : portOf port <;> cases hd : dirOf dir <;> simp only [hp, hd] at he
    all_goals first
      | exact c.errStart he h
      | exact c.oneStep he (fun _ hu => c.write hu h) h
  case gpioSetPinDir pin dir =>
    simp only [Machine.exec, execGpioSetPinDir] at he
    cases hp : pinOf pin <;> cases hd : dirOf dir <;> simp only [hp, hd] at he
    all_goals first
      | exact c.errStart he h
      | exact c.oneStep he (fun _ hu => c.write hu h) h
  case gpioSetPort port mask =>
    simp only [Machine.exec, execGpioSetPort] at he
    cases hp : portOf port <;> simp only [hp] at he
    · exact c.errStart he h
    · exact c.oneStep he (fun _ hu => c.write hu h) h
  case gpioClearPort port mask =>
    simp only [Machine.exec, execGpioClearPort] at he
    cases hp : portOf port <;> simp only [hp] at he
    · exact c.errStart he h
    · exact c.oneStep he (fun _ hu => c.write hu h) h
  case gpioSetPin pin =>
    simp only [Machine.exec, execGpioSetPin] at he
    cases hp : pinOf pin <;> simp only [hp] at he
    · exact c.errStart he h
    · exact c.oneStep he (fun _ hu => c.write hu h) h
  case gpioClearPin pin =>
    simp only [Machine.exec, execGpioClearPin] at he
    cases hp : pinOf pin <;> simp only [hp] at he
    · exact c.errStart he h
    · exact c.oneStep he (fun _ hu => c.write hu h) h
  case gpioGetPort port =>
    simp only [Machine.exec, execGpioGetPort] at he
    cases hp : portOf port <;> simp only [hp] at he
    · exact c.errStart he h
    · refine c.operation he ?_ h
      intro u fs hu
      obtain ⟨⟨v, w⟩, hw, hx⟩ := Res.map_eq_ok hu
      cases hx
      exact c.read hw h
  case gpioGetPin pin =>
    simp only [Machine.exec, execGpioGetPin] at he
    cases hp : pinOf pin <;> simp only [hp] at he
    · exact c.errStart he h
    · refine c.operation he ?_ h
      intro u fs hu
      obtain ⟨⟨v, w⟩, hw, hx⟩ := Res.map_eq_ok hu
      cases hx
      exact c.read hw h
  case gpioSetPortFunc port func mask =>
    simp only [Machine.exec, execGpioSetPortFunc] at he
    cases hp : portOf port <;> cases hd : funcOf func <;> simp only [hp, hd] at he
    all_goals first
      | exact c.errStart he h
      | exact c.operation he (fun _ _ hu => by cases hu) h
  case gpioSetPinFunc pin func =>
    simp only [Machine.exec, execGpioSetPinFunc] at he
    cases hp : pinOf pin <;> cases hd : funcOf func <;> simp only [hp, hd] at he
    all_goals first
      | exact c.errStart he h
      | exact c.operation he (fun _ _ hu => by cases hu) h
  case csDisableInterrupts =>
    simp only [Machine.exec, execCsDisableInterrupts] at he
    exact c.oneStep he (fun _ hu => by cases hu; exact c.masks _ _ _ h) h
  case csRestoreInterrupts saved =>
    simp only [Machine.exec, execCsRestoreInterrupts] at he
    exact c.oneStep he (fun _ hu => by cases hu; exact c.masks _ _ _ h) h
  case csDisableIrq =>
    simp only [Machine.exec, execCsDisableIrq] at he
    exact c.oneStep he (fun _ hu => by cases hu; exact c.masks _ _ _ h) h
  case csRestoreIrq saved =>
    simp only [Machine.exec, execCsRestoreIrq] at he
    exact c.oneStep he (fun _ hu => by cases hu; exact c.masks _ _ _ h) h
  case csDisableFiq =>
    simp only [Machine.exec, execCsDisableFiq] at he
    exact c.oneStep he (fun _ hu => by cases hu; exact c.masks _ _ _ h) h
  case csRestoreFiq saved =>
    simp only [Machine.exec, execCsRestoreFiq] at he
    exact c.oneStep he (fun _ hu => by cases hu; exact c.masks _ _ _ h) h
  case csSetHandler kind v =>
    simp only [Machine.exec, execCsSetHandler] at he
    cases hk : kindOf kind <;> simp only [hk] at he
    · exact c.operation he (fun _ _ hu => by cases hu) h
    · exact c.oneStep he (fun _ hu => by cases hu; exact c.handlers _ _ h) h
  case csGetHandler kind =>
    simp only [Machine.exec, execCsGetHandler] at he
    cases hk : kindOf kind <;> simp only [hk] at he
    · exact c.operation he (fun _ _ hu => by cases hu) h
    · exact c.operation he (fun _ _ hu => by cases hu; exact c.ret _ _ h) h
  case cbInit n storage cap => exact c.oneStep he (fun _ hu => c.initBuffer hu h) h
  case cbIsEmpty n =>
    refine c.operation he ?_ h
    intro u fs hu
    obtain ⟨e, -, hx⟩ := Res.map_eq_ok hu
    cases hx
    exact c.ret _ _ h
  case cbIsFull n =>
    refine c.operation he ?_ h
    intro u fs hu
    obtain ⟨e, -, hx⟩ := Res.map_eq_ok hu
    cases hx
    exact c.ret _ _ h
  case cbWrite n byte => exact c.oneStep he (fun _ hu => c.writeBuffer hu h) h
  case cbRead n =>
    refine c.operation he ?_ h
    intro u fs hu
    obtain ⟨⟨v, w⟩, hw, hx⟩ := Res.map_eq_ok hu
    cases hx
    exact c.readBuffer hw h
  case uartInit id baud name =>
    simp only [Machine.exec, execUartInit] at he
    cases hp : uidOf id with
    | none => simp only [hp] at he; exact c.errStart he h
    | some i =>
      simp only [hp] at he
      split at he
      · exact c.errStart he h
      · refine c.operation he ?_ h
        intro u fs hu
        split at hu
        · cases hu
        · obtain ⟨v, -, hx⟩ := Res.map_eq_ok hu
          cases hx
  case uartSendByte id byte =>
    simp only [Machine.exec, execUartSendByte] at he
    cases hp : uidOf id with
    | none => simp only [hp] at he; exact c.errStart he h
    | some i => simp only [hp, initialized] at he; exact c.operation he (fun _ _ hu => by split at hu <;> cases hu) h
  case uartReceiveByte id =>
    simp only [Machine.exec, execUartReceiveByte] at he
    cases hp : uidOf id with
    | none => simp only [hp] at he; exact c.errStart he h
    | some i => simp only [hp, initialized] at he; exact c.operation he (fun _ _ hu => by split at hu <;> cases hu) h
  case uartSend id buf count =>
    simp only [Machine.exec, execUartSend] at he
    cases hp : uidOf id with
    | none => simp only [hp] at he; exact c.errStart he h
    | some i =>
      simp only [hp] at he
      split at he
      · exact c.errStart he h
      · simp only [initialized] at he
        exact c.operation he (fun _ _ hu => by split at hu <;> cases hu) h
  case uartReceive id buf count =>
    simp only [Machine.exec, execUartReceive] at he
    cases hp : uidOf id with
    | none => simp only [hp] at he; exact c.errStart he h
    | some i =>
      simp only [hp] at he
      split at he
      · exact c.errStart he h
      · simp only [initialized] at he
        exact c.operation he (fun _ _ hu => by split at hu <;> cases hu) h
  case uartSetRxCallback id fn =>
    simp only [Machine.exec, execUartSetRxCallback] at he
    cases hp : uidOf id with
    | none => simp only [hp] at he; exact c.errStart he h
    | some i =>
      simp only [hp] at he
      split at he
      · exact c.oneStep he (fun _ hu => by cases hu; exact c.rxCb _ _ _ h) h
      · exact c.operation he (fun _ _ hu => by cases hu) h
  case uartSetTxCallback id fn =>
    simp only [Machine.exec, execUartSetTxCallback] at he
    cases hp : uidOf id with
    | none => simp only [hp] at he; exact c.errStart he h
    | some i =>
      simp only [hp] at he
      split at he
      · exact c.oneStep he (fun _ hu => by cases hu; exact c.txCb _ _ _ h) h
      · exact c.operation he (fun _ _ hu => by cases hu) h
  case itcSetPriority src level => exact c.oneStep he (fun _ hu => c.priority hu h) h
  case itcSetHandler src handler =>
    simp only [Machine.exec, execItcSetHandler] at he
    split at he
    · cases hk : isrHandlerOf handler <;> simp only [hk] at he
      · exact c.operation he (fun _ _ hu => by cases hu) h
      · exact c.oneStep he (fun _ hu => c.handler hu h) h
    · exact c.operation he (fun _ _ hu => by cases hu) h
  case itcEnableInterrupt src => exact c.oneStep he (fun _ hu => c.enable hu h) h
  case busRead addr =>
    refine c.operation he ?_ h
    intro u fs hu
    obtain ⟨r, -, hu⟩ := Res.bind_eq_ok hu
    obtain ⟨⟨v, w⟩, hw, hx⟩ := Res.map_eq_ok hu
    cases hx
    exact c.ret _ _ (c.read hw h)
  case busWrite addr value =>
    refine c.operation he ?_ h
    intro u fs hu
    obtain ⟨r, -, hu⟩ := Res.bind_eq_ok hu
    obtain ⟨w, hw, hx⟩ := Res.map_eq_ok hu
    cases hx
    exact c.write hw h
  all_goals first
    | exact c.readRegister he h
    | exact c.writeRegister he h

end RunClosed

/-- The primitive updates that a step of the machine is made of keep the fact `P`: those of a program or an ISR, and
those of the other agents and of the schedule. -/
structure StepClosed (P : State → Prop) : Prop extends RunClosed P where
  enter : ∀ s src i, s.ctx = .fg → P s → P (s.takeInterrupt src i)
  wireTx : ∀ s i b rest, (s.uart.get i).txfifo = b :: rest → P s →
    P ((s.setUart i { s.uart.get i with txfifo := rest }).emit (.wireTx i b))
  wireRx : ∀ s i b, (s.uart.get i).rxfifo.length < s.params.rxFifoDepth → P s →
    P ((s.setUart i { s.uart.get i with rxfifo := (s.uart.get i).rxfifo ++ [b] }).emit (.wireRx i b))
  wireRxLost : ∀ s i b, P s →
    P ((s.setUart i { s.uart.get i with err := { (s.uart.get i).err with roe := true } }).emit (.wireRxLost i b))
  lineError : ∀ s i (f : LineErrors), P s →
    P ((s.setUart i { s.uart.get i with
      err := { (s.uart.get i).err with
        se := (s.uart.get i).err.se || f.se, pe := (s.uart.get i).err.pe || f.pe,
        fe := (s.uart.get i).err.fe || f.fe } }).emit (.lineError i f))
  fault : ∀ s k, P s → P (s.recordFault k)
  refusal : ∀ s r, P s → P (s.recordRefusal r)
  sched : ∀ s ts, P s → P { s with sched := ts }
  slice : ∀ s n, P s → P { s with slice := n }

namespace StepClosed

variable {P : State → Prop} (c : StepClosed P)

include c

theorem txs {s : State} (i : Uid) (h : P s) : P (txsStep s i) := by
  unfold txsStep
  split
  · exact h
  · next b rest hb =>
    split
    · exact c.wireTx _ _ _ _ hb h
    · exact h

theorem rxl {s : State} (i : Uid) (b : Byte) (h : P s) : P (rxlStep s i b) := by
  unfold rxlStep
  simp only
  split
  · split
    · next hl => exact c.wireRx _ _ _ hl h
    · exact c.wireRxLost _ _ _ h
  · exact h

theorem lerr {s : State} (i : Uid) (f : LineErrors) (h : P s) : P (lerrStep s i f) := by
  unfold lerrStep
  simp only
  split
  · exact c.lineError _ _ _ h
  · exact h

theorem core {s : State} (src : Nat) (h : P s) : P (coreStep s src) := by
  unfold coreStep
  split
  · next hc =>
    split
    · exact h
    · split
      · exact c.enter _ _ _ hc h
      · exact h
  · split
    · exact c.fault _ _ h
    · exact h

theorem settle {s t : State} {o : Host.Outcome State Fault Refusal} (hs : Machine.settle s o = .next t)
    (ho : ∀ u, o = .next u → P u) (h : P s) : P t := by
  cases o with
  | next u => cases hs; exact ho _ rfl
  | fault k =>
    simp only [Machine.settle] at hs
    split at hs
    · cases hs; exact c.fault _ _ h
    · cases hs
  | refused r => cases hs; exact c.refusal _ _ h

theorem runContext {s t : State} (hr : Machine.runContext s = .next t) (h : P s) : P t := by
  refine c.settle hr ?_ h
  intro u hu
  split at hu
  · exact c.exec hu h
  · exact c.burst hu h
  · exact c.burst hu (c.todo _ _ h)
  · cases hu
  · cases hu

theorem takeTurn {turn : Turn} {s t : State} (ht : Machine.takeTurn turn s = .next t) (h : P s) : P t := by
  have stop : s.stopOutcome ≠ .next t := by
    unfold State.stopOutcome
    split <;> simp
  cases turn <;> simp only [Machine.takeTurn] at ht
  case txs i => cases ht; exact c.txs i h
  case rxl i b => cases ht; exact c.rxl i b h
  case lerr i f => cases ht; exact c.lerr i f h
  case core src =>
    split at ht
    · exact absurd ht stop
    · cases ht; exact c.core src h
  case run n =>
    split at ht
    · exact absurd ht stop
    · exact c.runContext ht (c.slice _ _ h)

/-- Every step of the machine keeps the fact. -/
theorem step {s t : State} (hs : Machine.step s = .next t) (h : P s) : P t := by
  unfold Machine.step at hs
  split at hs
  · cases hs; exact c.refusal _ _ h
  · split at hs
    · exact c.takeTurn hs h
    · exact c.takeTurn hs (c.sched _ _ h)

end StepClosed

end Sys2Proof.Machine
end

