-- ==== Sys2Proof/Laws/Frames.lean ====
section
/-! SUPPORT. Running the frames that several operations share: one lemma per frame, saying what a run with enough
steps does with it in privileged mode. -/

namespace Sys2Proof.Machine

/-- One atomic step of a run. -/
theorem goOn_go {s s' : State} {f : Frame} {fs : List Frame} {n : Nat} (h : frame f (s.push fs) = .go s') :
    goOn (n + 1) (s.push (f :: fs)) = goOn n s' := by
  rw [goOn_succ, atomic_push, h]

/-- The first atomic step of a burst, and the run after it. -/
theorem burst_go {s s' : State} {f : Frame} {fs : List Frame} (h : frame f (s.push fs) = .go s') :
    burst (s.push (f :: fs)) = .next (goOn s.slice s') := by
  unfold burst
  rw [atomic_push, h]
  rfl

/-- A run stops before a step that faults. -/
theorem goOn_before_fault {s : State} {f : Frame} {fs : List Frame} {n : Nat} {k : Fault}
    (h : frame f (s.push fs) = .fault k) : goOn n (s.push (f :: fs)) = s.push (f :: fs) := by
  cases n with
  | zero => rfl
  | succ n => rw [goOn_succ, atomic_push, h]

/-- A burst whose first step faults is that fault. -/
theorem burst_fault {s : State} {f : Frame} {fs : List Frame} {k : Fault} (h : frame f (s.push fs) = .fault k) :
    burst (s.push (f :: fs)) = .fault k := by
  unfold burst
  rw [atomic_push, h]

/-- An operation in progress goes on with its frames. -/
theorem operation_resumes {s : State} {x : Res Start} (h : s.atStart = false) : operation s x = burst s := by
  simp [operation, h]

/-- A register write of an operation. -/
theorem goOn_regWrite {s t : State} {r : Reg} {v : Word} {fs : List Frame} {n : Nat} (hm : s.mode = .privileged)
    (h : writeRule (s.push fs) v r = .ok (t.push fs)) :
    goOn (n + 1) (s.push (.regWrite r v :: fs)) = goOn n (t.push fs) := by
  refine goOn_go ?_
  simp only [frame]
  rw [regWrite_privileged (s := s.push fs) _ _ hm, h]
  rfl

/-- A control word with one mask bit changed. -/
def Ucon.withMask (u : Ucon) (m : MaskBit) (b : Bool) : Ucon :=
  match m with
  | .mrxr => { u with mrxr := b }
  | .mtxr => { u with mtxr := b }

/-- Without the loopback bit, writing back a control word with one mask bit changed changes that bit. -/
theorem Ucon.withMask_word (u : Ucon) (m : MaskBit) (b : Bool) (ht : u.tst = false) :
    setBit u.word m.position b &&& uconMustBeZero = 0 ∧ bitOf (setBit u.word m.position b) 15 = false ∧
      Ucon.ofWord (setBit u.word m.position b) = u.withMask m b := by
  obtain ⟨a1, a2, a3, a4, a5, a6, a7, a8⟩ := u
  simp only at ht
  subst ht
  revert a1 a2 a3 a4 a5 a7 a8 b
  cases m <;> decide

/-- 45 R341: the mask helper takes two steps and changes one mask bit. -/
theorem goOn_setMask {s : State} {i : Uid} {m : MaskBit} {b : Bool} {fs : List Frame} {n : Nat}
    (hm : s.mode = .privileged) (ht : (s.uart.get i).ucon.tst = false) :
    goOn (n + 2) (s.push (.maskRead i m b :: fs)) =
      goOn n ((s.setUart i { s.uart.get i with ucon := (s.uart.get i).ucon.withMask m b }).push fs) := by
  obtain ⟨h1, h2, h3⟩ := (s.uart.get i).ucon.withMask_word m b ht
  have e : frame (.maskRead i m b) (s.push fs) =
      .go (s.push (.regWrite (.ucon i) (setBit (s.uart.get i).ucon.word m.position b) :: fs)) := by
    have : regRead (s.push fs) (.ucon i) = .ok ((s.uart.get i).ucon.word, s.push fs) :=
      regRead_privileged (s := s.push fs) _ hm
    simp only [frame, this, Res.map_ok, Micro.ofRes]
    rfl
  rw [goOn_go e]
  refine goOn_regWrite hm ?_
  simp only [writeRule, uconWrite]
  rw [if_neg (not_not.mpr h1), if_neg (by simp [h2]), h3]
  rfl

/-- A byte put into a word comes back out of it. -/
@[simp] theorem lowByte_zextByte (b : Byte) : lowByte (zextByte b) = b := by
  apply BitVec.eq_of_getLsbD_eq
  intro j hj
  simp [lowByte, zextByte, hj]
  omega

end Sys2Proof.Machine
end

