-- ==== Sys2Proof/Laws/PerInstr.lean ====
section
/-! SUPPORT. One lemma per instruction about its words (30 R100, R102): a header that is the opcode of a row of the
opcode map, and exactly the argument words that row gives. -/

namespace Sys2Proof.Laws.CommandShape

/-- 30 R102: each opcode with its number of argument words. -/
def rows : List (Nat × Nat) :=
  [(0x01, 3), (0x02, 2), (0x03, 2), (0x04, 2), (0x05, 1), (0x06, 1), (0x07, 1), (0x08, 1), (0x09, 3), (0x0A, 2), (0x10, 0), (0x11, 1)]
  ++ [(0x12, 0), (0x13, 1), (0x14, 0), (0x15, 1), (0x16, 2), (0x17, 1), (0x20, 3), (0x21, 1), (0x22, 1), (0x23, 2), (0x24, 1), (0x30, 3)]
  ++ [(0x31, 2), (0x32, 1), (0x33, 3), (0x34, 3), (0x35, 2), (0x36, 2), (0x40, 2), (0x41, 2), (0x42, 1), (0x50, 1), (0x51, 2)]

/-- The instruction's words are the header of a row and that row's number of arguments. -/
def Statement (i : Instr) : Prop :=
  ∃ row ∈ rows, ∃ args : List Word, encode i = BitVec.ofNat 32 row.1 :: args ∧ args.length = row.2

theorem gpioSetPortDir (port mask dir : Word) : Statement (.gpioSetPortDir port mask dir) := ⟨(0x01, 3), by decide, _, rfl, rfl⟩
theorem gpioSetPinDir (pin dir : Word) : Statement (.gpioSetPinDir pin dir) := ⟨(0x02, 2), by decide, _, rfl, rfl⟩
theorem gpioSetPort (port mask : Word) : Statement (.gpioSetPort port mask) := ⟨(0x03, 2), by decide, _, rfl, rfl⟩
theorem gpioClearPort (port mask : Word) : Statement (.gpioClearPort port mask) := ⟨(0x04, 2), by decide, _, rfl, rfl⟩
theorem gpioSetPin (pin : Word) : Statement (.gpioSetPin pin) := ⟨(0x05, 1), by decide, _, rfl, rfl⟩
theorem gpioClearPin (pin : Word) : Statement (.gpioClearPin pin) := ⟨(0x06, 1), by decide, _, rfl, rfl⟩
theorem gpioGetPort (port : Word) : Statement (.gpioGetPort port) := ⟨(0x07, 1), by decide, _, rfl, rfl⟩
theorem gpioGetPin (pin : Word) : Statement (.gpioGetPin pin) := ⟨(0x08, 1), by decide, _, rfl, rfl⟩
theorem gpioSetPortFunc (port func mask : Word) : Statement (.gpioSetPortFunc port func mask) := ⟨(0x09, 3), by decide, _, rfl, rfl⟩
theorem gpioSetPinFunc (pin func : Word) : Statement (.gpioSetPinFunc pin func) := ⟨(0x0A, 2), by decide, _, rfl, rfl⟩
theorem csDisableInterrupts : Statement (.csDisableInterrupts) := ⟨(0x10, 0), by decide, _, rfl, rfl⟩
theorem csRestoreInterrupts (saved : Word) : Statement (.csRestoreInterrupts saved) := ⟨(0x11, 1), by decide, _, rfl, rfl⟩
theorem csDisableIrq : Statement (.csDisableIrq) := ⟨(0x12, 0), by decide, _, rfl, rfl⟩
theorem csRestoreIrq (saved : Word) : Statement (.csRestoreIrq saved) := ⟨(0x13, 1), by decide, _, rfl, rfl⟩
theorem csDisableFiq : Statement (.csDisableFiq) := ⟨(0x14, 0), by decide, _, rfl, rfl⟩
theorem csRestoreFiq (saved : Word) : Statement (.csRestoreFiq saved) := ⟨(0x15, 1), by decide, _, rfl, rfl⟩
theorem csSetHandler (kind handler : Word) : Statement (.csSetHandler kind handler) := ⟨(0x16, 2), by decide, _, rfl, rfl⟩
theorem csGetHandler (kind : Word) : Statement (.csGetHandler kind) := ⟨(0x17, 1), by decide, _, rfl, rfl⟩
theorem cbInit (h storage cap : Word) : Statement (.cbInit h storage cap) := ⟨(0x20, 3), by decide, _, rfl, rfl⟩
theorem cbIsEmpty (h : Word) : Statement (.cbIsEmpty h) := ⟨(0x21, 1), by decide, _, rfl, rfl⟩
theorem cbIsFull (h : Word) : Statement (.cbIsFull h) := ⟨(0x22, 1), by decide, _, rfl, rfl⟩
theorem cbWrite (h byte : Word) : Statement (.cbWrite h byte) := ⟨(0x23, 2), by decide, _, rfl, rfl⟩
theorem cbRead (h : Word) : Statement (.cbRead h) := ⟨(0x24, 1), by decide, _, rfl, rfl⟩
theorem uartInit (id baud name : Word) : Statement (.uartInit id baud name) := ⟨(0x30, 3), by decide, _, rfl, rfl⟩
theorem uartSendByte (id byte : Word) : Statement (.uartSendByte id byte) := ⟨(0x31, 2), by decide, _, rfl, rfl⟩
theorem uartReceiveByte (id : Word) : Statement (.uartReceiveByte id) := ⟨(0x32, 1), by decide, _, rfl, rfl⟩
theorem uartSend (id buf count : Word) : Statement (.uartSend id buf count) := ⟨(0x33, 3), by decide, _, rfl, rfl⟩
theorem uartReceive (id buf count : Word) : Statement (.uartReceive id buf count) := ⟨(0x34, 3), by decide, _, rfl, rfl⟩
theorem uartSetRxCallback (id fn : Word) : Statement (.uartSetRxCallback id fn) := ⟨(0x35, 2), by decide, _, rfl, rfl⟩
theorem uartSetTxCallback (id fn : Word) : Statement (.uartSetTxCallback id fn) := ⟨(0x36, 2), by decide, _, rfl, rfl⟩
theorem itcSetPriority (src level : Word) : Statement (.itcSetPriority src level) := ⟨(0x40, 2), by decide, _, rfl, rfl⟩
theorem itcSetHandler (src handler : Word) : Statement (.itcSetHandler src handler) := ⟨(0x41, 2), by decide, _, rfl, rfl⟩
theorem itcEnableInterrupt (src : Word) : Statement (.itcEnableInterrupt src) := ⟨(0x42, 1), by decide, _, rfl, rfl⟩
theorem busRead (addr : Word) : Statement (.busRead addr) := ⟨(0x50, 1), by decide, _, rfl, rfl⟩
theorem busWrite (addr value : Word) : Statement (.busWrite addr value) := ⟨(0x51, 2), by decide, _, rfl, rfl⟩
theorem mmioReadGpioPadDir0 : Statement (.mmioReadGpioPadDir0) := ⟨(0x50, 1), by decide, _, rfl, rfl⟩
theorem mmioWriteGpioPadDir0 (value : Word) : Statement (.mmioWriteGpioPadDir0 value) := ⟨(0x51, 2), by decide, _, rfl, rfl⟩
theorem mmioReadGpioPadDir1 : Statement (.mmioReadGpioPadDir1) := ⟨(0x50, 1), by decide, _, rfl, rfl⟩
theorem mmioWriteGpioPadDir1 (value : Word) : Statement (.mmioWriteGpioPadDir1 value) := ⟨(0x51, 2), by decide, _, rfl, rfl⟩
theorem mmioReadGpioData0 : Statement (.mmioReadGpioData0) := ⟨(0x50, 1), by decide, _, rfl, rfl⟩
theorem mmioWriteGpioData0 (value : Word) : Statement (.mmioWriteGpioData0 value) := ⟨(0x51, 2), by decide, _, rfl, rfl⟩
theorem mmioReadGpioData1 : Statement (.mmioReadGpioData1) := ⟨(0x50, 1), by decide, _, rfl, rfl⟩
theorem mmioWriteGpioData1 (value : Word) : Statement (.mmioWriteGpioData1 value) := ⟨(0x51, 2), by decide, _, rfl, rfl⟩
theorem mmioReadGpioPadPuEn0 : Statement (.mmioReadGpioPadPuEn0) := ⟨(0x50, 1), by decide, _, rfl, rfl⟩
theorem mmioWriteGpioPadPuEn0 (value : Word) : Statement (.mmioWriteGpioPadPuEn0 value) := ⟨(0x51, 2), by decide, _, rfl, rfl⟩
theorem mmioReadGpioPadPuEn1 : Statement (.mmioReadGpioPadPuEn1) := ⟨(0x50, 1), by decide, _, rfl, rfl⟩
theorem mmioWriteGpioPadPuEn1 (value : Word) : Statement (.mmioWriteGpioPadPuEn1 value) := ⟨(0x51, 2), by decide, _, rfl, rfl⟩
theorem mmioReadGpioFuncSel0 : Statement (.mmioReadGpioFuncSel0) := ⟨(0x50, 1), by decide, _, rfl, rfl⟩
theorem mmioWriteGpioFuncSel0 (value : Word) : Statement (.mmioWriteGpioFuncSel0 value) := ⟨(0x51, 2), by decide, _, rfl, rfl⟩
theorem mmioReadGpioFuncSel1 : Statement (.mmioReadGpioFuncSel1) := ⟨(0x50, 1), by decide, _, rfl, rfl⟩
theorem mmioWriteGpioFuncSel1 (value : Word) : Statement (.mmioWriteGpioFuncSel1 value) := ⟨(0x51, 2), by decide, _, rfl, rfl⟩
theorem mmioReadGpioFuncSel2 : Statement (.mmioReadGpioFuncSel2) := ⟨(0x50, 1), by decide, _, rfl, rfl⟩
theorem mmioWriteGpioFuncSel2 (value : Word) : Statement (.mmioWriteGpioFuncSel2 value) := ⟨(0x51, 2), by decide, _, rfl, rfl⟩
theorem mmioReadGpioFuncSel3 : Statement (.mmioReadGpioFuncSel3) := ⟨(0x50, 1), by decide, _, rfl, rfl⟩
theorem mmioWriteGpioFuncSel3 (value : Word) : Statement (.mmioWriteGpioFuncSel3 value) := ⟨(0x51, 2), by decide, _, rfl, rfl⟩
theorem mmioReadGpioDataSel0 : Statement (.mmioReadGpioDataSel0) := ⟨(0x50, 1), by decide, _, rfl, rfl⟩
theorem mmioWriteGpioDataSel0 (value : Word) : Statement (.mmioWriteGpioDataSel0 value) := ⟨(0x51, 2), by decide, _, rfl, rfl⟩
theorem mmioReadGpioDataSel1 : Statement (.mmioReadGpioDataSel1) := ⟨(0x50, 1), by decide, _, rfl, rfl⟩
theorem mmioWriteGpioDataSel1 (value : Word) : Statement (.mmioWriteGpioDataSel1 value) := ⟨(0x51, 2), by decide, _, rfl, rfl⟩
theorem mmioReadGpioPadPuSel0 : Statement (.mmioReadGpioPadPuSel0) := ⟨(0x50, 1), by decide, _, rfl, rfl⟩
theorem mmioWriteGpioPadPuSel0 (value : Word) : Statement (.mmioWriteGpioPadPuSel0 value) := ⟨(0x51, 2), by decide, _, rfl, rfl⟩
theorem mmioReadGpioPadPuSel1 : Statement (.mmioReadGpioPadPuSel1) := ⟨(0x50, 1), by decide, _, rfl, rfl⟩
theorem mmioWriteGpioPadPuSel1 (value : Word) : Statement (.mmioWriteGpioPadPuSel1 value) := ⟨(0x51, 2), by decide, _, rfl, rfl⟩
theorem mmioReadGpioPadHystEn0 : Statement (.mmioReadGpioPadHystEn0) := ⟨(0x50, 1), by decide, _, rfl, rfl⟩
theorem mmioWriteGpioPadHystEn0 (value : Word) : Statement (.mmioWriteGpioPadHystEn0 value) := ⟨(0x51, 2), by decide, _, rfl, rfl⟩
theorem mmioReadGpioPadHystEn1 : Statement (.mmioReadGpioPadHystEn1) := ⟨(0x50, 1), by decide, _, rfl, rfl⟩
theorem mmioWriteGpioPadHystEn1 (value : Word) : Statement (.mmioWriteGpioPadHystEn1 value) := ⟨(0x51, 2), by decide, _, rfl, rfl⟩
theorem mmioReadGpioPadKeep0 : Statement (.mmioReadGpioPadKeep0) := ⟨(0x50, 1), by decide, _, rfl, rfl⟩
theorem mmioWriteGpioPadKeep0 (value : Word) : Statement (.mmioWriteGpioPadKeep0 value) := ⟨(0x51, 2), by decide, _, rfl, rfl⟩
theorem mmioReadGpioPadKeep1 : Statement (.mmioReadGpioPadKeep1) := ⟨(0x50, 1), by decide, _, rfl, rfl⟩
theorem mmioWriteGpioPadKeep1 (value : Word) : Statement (.mmioWriteGpioPadKeep1 value) := ⟨(0x51, 2), by decide, _, rfl, rfl⟩
theorem mmioReadGpioDataSet0 : Statement (.mmioReadGpioDataSet0) := ⟨(0x50, 1), by decide, _, rfl, rfl⟩
theorem mmioWriteGpioDataSet0 (value : Word) : Statement (.mmioWriteGpioDataSet0 value) := ⟨(0x51, 2), by decide, _, rfl, rfl⟩
theorem mmioReadGpioDataSet1 : Statement (.mmioReadGpioDataSet1) := ⟨(0x50, 1), by decide, _, rfl, rfl⟩
theorem mmioWriteGpioDataSet1 (value : Word) : Statement (.mmioWriteGpioDataSet1 value) := ⟨(0x51, 2), by decide, _, rfl, rfl⟩
theorem mmioReadGpioDataReset0 : Statement (.mmioReadGpioDataReset0) := ⟨(0x50, 1), by decide, _, rfl, rfl⟩
theorem mmioWriteGpioDataReset0 (value : Word) : Statement (.mmioWriteGpioDataReset0 value) := ⟨(0x51, 2), by decide, _, rfl, rfl⟩
theorem mmioReadGpioDataReset1 : Statement (.mmioReadGpioDataReset1) := ⟨(0x50, 1), by decide, _, rfl, rfl⟩
theorem mmioWriteGpioDataReset1 (value : Word) : Statement (.mmioWriteGpioDataReset1 value) := ⟨(0x51, 2), by decide, _, rfl, rfl⟩
theorem mmioReadGpioPadDirSet0 : Statement (.mmioReadGpioPadDirSet0) := ⟨(0x50, 1), by decide, _, rfl, rfl⟩
theorem mmioWriteGpioPadDirSet0 (value : Word) : Statement (.mmioWriteGpioPadDirSet0 value) := ⟨(0x51, 2), by decide, _, rfl, rfl⟩
theorem mmioReadGpioPadDirSet1 : Statement (.mmioReadGpioPadDirSet1) := ⟨(0x50, 1), by decide, _, rfl, rfl⟩
theorem mmioWriteGpioPadDirSet1 (value : Word) : Statement (.mmioWriteGpioPadDirSet1 value) := ⟨(0x51, 2), by decide, _, rfl, rfl⟩
theorem mmioReadGpioPadDirReset0 : Statement (.mmioReadGpioPadDirReset0) := ⟨(0x50, 1), by decide, _, rfl, rfl⟩
theorem mmioWriteGpioPadDirReset0 (value : Word) : Statement (.mmioWriteGpioPadDirReset0 value) := ⟨(0x51, 2), by decide, _, rfl, rfl⟩
theorem mmioReadGpioPadDirReset1 : Statement (.mmioReadGpioPadDirReset1) := ⟨(0x50, 1), by decide, _, rfl, rfl⟩
theorem mmioWriteGpioPadDirReset1 (value : Word) : Statement (.mmioWriteGpioPadDirReset1 value) := ⟨(0x51, 2), by decide, _, rfl, rfl⟩
theorem mmioReadUcon0 : Statement (.mmioReadUcon0) := ⟨(0x50, 1), by decide, _, rfl, rfl⟩
theorem mmioWriteUcon0 (value : Word) : Statement (.mmioWriteUcon0 value) := ⟨(0x51, 2), by decide, _, rfl, rfl⟩
theorem mmioReadUcon1 : Statement (.mmioReadUcon1) := ⟨(0x50, 1), by decide, _, rfl, rfl⟩
theorem mmioWriteUcon1 (value : Word) : Statement (.mmioWriteUcon1 value) := ⟨(0x51, 2), by decide, _, rfl, rfl⟩
theorem mmioReadUstat0 : Statement (.mmioReadUstat0) := ⟨(0x50, 1), by decide, _, rfl, rfl⟩
theorem mmioWriteUstat0 (value : Word) : Statement (.mmioWriteUstat0 value) := ⟨(0x51, 2), by decide, _, rfl, rfl⟩
theorem mmioReadUstat1 : Statement (.mmioReadUstat1) := ⟨(0x50, 1), by decide, _, rfl, rfl⟩
theorem mmioWriteUstat1 (value : Word) : Statement (.mmioWriteUstat1 value) := ⟨(0x51, 2), by decide, _, rfl, rfl⟩
theorem mmioReadUdata0 : Statement (.mmioReadUdata0) := ⟨(0x50, 1), by decide, _, rfl, rfl⟩
theorem mmioWriteUdata0 (value : Word) : Statement (.mmioWriteUdata0 value) := ⟨(0x51, 2), by decide, _, rfl, rfl⟩
theorem mmioReadUdata1 : Statement (.mmioReadUdata1) := ⟨(0x50, 1), by decide, _, rfl, rfl⟩
theorem mmioWriteUdata1 (value : Word) : Statement (.mmioWriteUdata1 value) := ⟨(0x51, 2), by decide, _, rfl, rfl⟩
theorem mmioReadUrxcon0 : Statement (.mmioReadUrxcon0) := ⟨(0x50, 1), by decide, _, rfl, rfl⟩
theorem mmioWriteUrxcon0 (value : Word) : Statement (.mmioWriteUrxcon0 value) := ⟨(0x51, 2), by decide, _, rfl, rfl⟩
theorem mmioReadUrxcon1 : Statement (.mmioReadUrxcon1) := ⟨(0x50, 1), by decide, _, rfl, rfl⟩
theorem mmioWriteUrxcon1 (value : Word) : Statement (.mmioWriteUrxcon1 value) := ⟨(0x51, 2), by decide, _, rfl, rfl⟩
theorem mmioReadUtxcon0 : Statement (.mmioReadUtxcon0) := ⟨(0x50, 1), by decide, _, rfl, rfl⟩
theorem mmioWriteUtxcon0 (value : Word) : Statement (.mmioWriteUtxcon0 value) := ⟨(0x51, 2), by decide, _, rfl, rfl⟩
theorem mmioReadUtxcon1 : Statement (.mmioReadUtxcon1) := ⟨(0x50, 1), by decide, _, rfl, rfl⟩
theorem mmioWriteUtxcon1 (value : Word) : Statement (.mmioWriteUtxcon1 value) := ⟨(0x51, 2), by decide, _, rfl, rfl⟩
theorem mmioReadUcts0 : Statement (.mmioReadUcts0) := ⟨(0x50, 1), by decide, _, rfl, rfl⟩
theorem mmioWriteUcts0 (value : Word) : Statement (.mmioWriteUcts0 value) := ⟨(0x51, 2), by decide, _, rfl, rfl⟩
theorem mmioReadUcts1 : Statement (.mmioReadUcts1) := ⟨(0x50, 1), by decide, _, rfl, rfl⟩
theorem mmioWriteUcts1 (value : Word) : Statement (.mmioWriteUcts1 value) := ⟨(0x51, 2), by decide, _, rfl, rfl⟩
theorem mmioReadUbrcnt0 : Statement (.mmioReadUbrcnt0) := ⟨(0x50, 1), by decide, _, rfl, rfl⟩
theorem mmioWriteUbrcnt0 (value : Word) : Statement (.mmioWriteUbrcnt0 value) := ⟨(0x51, 2), by decide, _, rfl, rfl⟩
theorem mmioReadUbrcnt1 : Statement (.mmioReadUbrcnt1) := ⟨(0x50, 1), by decide, _, rfl, rfl⟩
theorem mmioWriteUbrcnt1 (value : Word) : Statement (.mmioWriteUbrcnt1 value) := ⟨(0x51, 2), by decide, _, rfl, rfl⟩

end Sys2Proof.Laws.CommandShape
end

