-- ==== Sys2Proof/Tests/Slice0.lean ====
section
/-! SUPPORT. Tests: ill-formed commands are refused, words written out from the spec's tables decode to their commands,
one step of each command on a small state with the result the spec's vectors give (95_test_vectors.md, and the examples
of the rules), and for each statement with hypotheses a state that meets them. -/

namespace Sys2Proof.Tests

open Sys2Proof Sys2Proof.Machine

/-! ### Helpers -/

/-- What is read from the next state, if there is one. -/
def gives {α : Type} (f : State → α) : Host.Outcome State Fault Refusal → Option α
  | .next t => some (f t)
  | _ => none

def faultOf : Host.Outcome State Fault Refusal → Option Fault
  | .fault k => some k
  | _ => none

def refusalOfStep : Host.Outcome State Fault Refusal → Option Refusal
  | .refused r => some r
  | _ => none

/-- `ret` after one command. -/
def retOf (i : Instr) (s : State) : Option (Option Word) := gives (fun t => t.cur.ret) (exec i s)

/-- The state of 95: reset with the parameters of 00 R7. -/
def base : State := State.reset

/-- The same with `FG_MODE = unprivileged`. -/
def unpriv : State := { State.reset with params.fgMode := .unprivileged }

/-- UART hardware as `uart.init` at 115200 baud leaves it: both enables, transmit interrupt masked. -/
def liveUart : Uart :=
  { Uart.reset 0x02FF270F with
    ucon := ⟨true, true, false, false, false, false, false, true⟩
    txThr := 31, rxThr := 1, ustate := .initialized }

/-- Both enables, neither interrupt masked. -/
def openUcon : Ucon := ⟨true, true, false, false, false, false, false, false⟩

/-- A buffer of capacity `cap` that holds `bs` from slot 0. -/
def buf (cap : Nat) (bs : List Byte) : Cb :=
  ⟨true, cap, 0, 0, bs.length % cap, bs.length, (List.range bs.length).zip bs⟩

/-- Both UARTs initialised, their receive and transmit buffers of capacity 4 holding `rx` and `tx`, buffer 4 empty with
capacity 3, both sources enabled and routed; interrupts masked. -/
def live (rx tx : List Byte) : State :=
  { State.reset with
    uart := ⟨liveUart, liveUart⟩
    cb := [buf 4 rx, buf 4 tx, buf 4 rx, buf 4 tx, buf 3 [], Cb.reset, Cb.reset, Cb.reset]
    itc := [ItcEntry.reset, ⟨true, .normal, some .zero⟩, ⟨true, .normal, some .one⟩]
      ++ List.replicate 8 ItcEntry.reset
    fselPending := none }

/-- `s` in the ISR of source 1 with its frames. -/
def inIsr (s : State) (fs : List Frame) : State :=
  { s with ctx := .isr 1, saved := some ⟨⟨6, none, none, []⟩, false, true⟩, cpu.i := true, cur.todo := fs }

/-! ### Well-formedness: an ill-formed term for the check -/

/-- A register's address makes the generic bus commands ill-formed (log 1). -/
theorem test_ill_formed_bus_read : Instr.wellFormed (.busRead 0x80000000) = false := by decide

theorem test_ill_formed_bus_write : Instr.wellFormed (.busWrite 0x8000B018 7) = false := by decide

theorem test_well_formed_outside_registers :
    Instr.wellFormed (.busRead 0x80000068) = true ∧ Instr.wellFormed (.busRead 0x80000002) = true ∧
    Instr.wellFormed (.busWrite 0x00400000 7) = true := by decide

/-! ### Decoding: words written out from 30 R102, R106 and R107 -/

/-- 30 R102, 0x01 to 0x0A; the last words are 95 L3.1's. -/
theorem test_decode_gpio :
    decode [0x00000001, 1, 0x3, 0] = .ok (.gpioSetPortDir 1 0x3 0, []) ∧
    decode [0x00000002, 0x0000002C, 1] = .ok (.gpioSetPinDir 44 1, []) ∧
    decode [0x00000003, 1, 0x80000001] = .ok (.gpioSetPort 1 0x80000001, []) ∧
    decode [0x00000004, 1, 0x1] = .ok (.gpioClearPort 1 0x1, []) ∧
    decode [0x00000005, 0x0000002C] = .ok (.gpioSetPin 44, []) ∧
    decode [0x00000006, 0x0000002C] = .ok (.gpioClearPin 44, []) ∧
    decode [0x00000007, 1] = .ok (.gpioGetPort 1, []) ∧
    decode [0x00000008, 0x00000040, 0x00000005] = .ok (.gpioGetPin 64, [5]) ∧
    decode [0x00000009, 1, 2, 0x0000C000] = .ok (.gpioSetPortFunc 1 2 0xC000, []) ∧
    decode [0x0000000A, 0x0000002C, 0] = .ok (.gpioSetPinFunc 44 0, []) := by decide

/-- 30 R102, 0x10 to 0x17. -/
theorem test_decode_cs :
    decode [0x00000010] = .ok (.csDisableInterrupts, []) ∧
    decode [0x00000011, 0x000000C0] = .ok (.csRestoreInterrupts 0xC0, []) ∧
    decode [0x00000012, 0x00000013] = .ok (.csDisableIrq, [0x13]) ∧
    decode [0x00000013, 0x00000080] = .ok (.csRestoreIrq 0x80, []) ∧
    decode [0x00000014] = .ok (.csDisableFiq, []) ∧
    decode [0x00000015, 0x00000040] = .ok (.csRestoreFiq 0x40, []) ∧
    decode [0x00000016, 6, 0x00400100] = .ok (.csSetHandler 6 0x00400100, []) ∧
    decode [0x00000017, 6] = .ok (.csGetHandler 6, []) := by decide

/-- 30 R102, 0x20 to 0x24. -/
theorem test_decode_cb :
    decode [0x00000020, 4, 0x00401000, 3] = .ok (.cbInit 4 0x00401000 3, []) ∧
    decode [0x00000021, 4] = .ok (.cbIsEmpty 4, []) ∧
    decode [0x00000022, 4] = .ok (.cbIsFull 4, []) ∧
    decode [0x00000023, 4, 0x11] = .ok (.cbWrite 4 0x11, []) ∧
    decode [0x00000024, 4] = .ok (.cbRead 4, []) := by decide

/-- 30 R102, 0x30 to 0x36. -/
theorem test_decode_uart :
    decode [0x00000030, 0, 0x0001C200, 0x00400100] = .ok (.uartInit 0 115200 0x00400100, []) ∧
    decode [0x00000031, 1, 0x55] = .ok (.uartSendByte 1 0x55, []) ∧
    decode [0x00000032, 1] = .ok (.uartReceiveByte 1, []) ∧
    decode [0x00000033, 0, 0x00400000, 2] = .ok (.uartSend 0 0x00400000 2, []) ∧
    decode [0x00000034, 0, 0x00400100, 10] = .ok (.uartReceive 0 0x00400100 10, []) ∧
    decode [0x00000035, 0, 1] = .ok (.uartSetRxCallback 0 1, []) ∧
    decode [0x00000036, 1, 0] = .ok (.uartSetTxCallback 1 0, []) := by decide

/-- 30 R102, 0x40 to 0x51; an address with no register keeps the generic form. -/
theorem test_decode_itc_bus :
    decode [0x00000040, 1, 0] = .ok (.itcSetPriority 1 0, []) ∧
    decode [0x00000041, 2, 2] = .ok (.itcSetHandler 2 2, []) ∧
    decode [0x00000042, 1] = .ok (.itcEnableInterrupt 1, []) ∧
    decode [0x00000050, 0x80000002] = .ok (.busRead 0x80000002, []) ∧
    decode [0x00000051, 0x00400000, 7] = .ok (.busWrite 0x00400000 7, []) := by decide

/-- 30 R102, R106: the read of each register of this group, at its address. -/
theorem test_decode_read_gpio_0x00_to_0x24 :
    decode [0x00000050, 0x80000000] = .ok (.mmioReadGpioPadDir0, []) ∧
    decode [0x00000050, 0x80000004] = .ok (.mmioReadGpioPadDir1, []) ∧
    decode [0x00000050, 0x80000008] = .ok (.mmioReadGpioData0, []) ∧
    decode [0x00000050, 0x8000000C] = .ok (.mmioReadGpioData1, []) ∧
    decode [0x00000050, 0x80000010] = .ok (.mmioReadGpioPadPuEn0, []) ∧
    decode [0x00000050, 0x80000014] = .ok (.mmioReadGpioPadPuEn1, []) ∧
    decode [0x00000050, 0x80000018] = .ok (.mmioReadGpioFuncSel0, []) ∧
    decode [0x00000050, 0x8000001C] = .ok (.mmioReadGpioFuncSel1, []) ∧
    decode [0x00000050, 0x80000020] = .ok (.mmioReadGpioFuncSel2, []) ∧
    decode [0x00000050, 0x80000024] = .ok (.mmioReadGpioFuncSel3, []) := by decide

/-- 30 R102, R106: the write of each register of this group, at its address. -/
theorem test_decode_write_gpio_0x00_to_0x24 :
    decode [0x00000051, 0x80000000, 0x2C] = .ok (.mmioWriteGpioPadDir0 0x2C, []) ∧
    decode [0x00000051, 0x80000004, 0x2C] = .ok (.mmioWriteGpioPadDir1 0x2C, []) ∧
    decode [0x00000051, 0x80000008, 0x2C] = .ok (.mmioWriteGpioData0 0x2C, []) ∧
    decode [0x00000051, 0x8000000C, 0x2C] = .ok (.mmioWriteGpioData1 0x2C, []) ∧
    decode [0x00000051, 0x80000010, 0x2C] = .ok (.mmioWriteGpioPadPuEn0 0x2C, []) ∧
    decode [0x00000051, 0x80000014, 0x2C] = .ok (.mmioWriteGpioPadPuEn1 0x2C, []) ∧
    decode [0x00000051, 0x80000018, 0x2C] = .ok (.mmioWriteGpioFuncSel0 0x2C, []) ∧
    decode [0x00000051, 0x8000001C, 0x2C] = .ok (.mmioWriteGpioFuncSel1 0x2C, []) ∧
    decode [0x00000051, 0x80000020, 0x2C] = .ok (.mmioWriteGpioFuncSel2 0x2C, []) ∧
    decode [0x00000051, 0x80000024, 0x2C] = .ok (.mmioWriteGpioFuncSel3 0x2C, []) := by decide

/-- 30 R102, R106: the read of each register of this group, at its address. -/
theorem test_decode_read_gpio_0x28_to_0x44 :
    decode [0x00000050, 0x80000028] = .ok (.mmioReadGpioDataSel0, []) ∧
    decode [0x00000050, 0x8000002C] = .ok (.mmioReadGpioDataSel1, []) ∧
    decode [0x00000050, 0x80000030] = .ok (.mmioReadGpioPadPuSel0, []) ∧
    decode [0x00000050, 0x80000034] = .ok (.mmioReadGpioPadPuSel1, []) ∧
    decode [0x00000050, 0x80000038] = .ok (.mmioReadGpioPadHystEn0, []) ∧
    decode [0x00000050, 0x8000003C] = .ok (.mmioReadGpioPadHystEn1, []) ∧
    decode [0x00000050, 0x80000040] = .ok (.mmioReadGpioPadKeep0, []) ∧
    decode [0x00000050, 0x80000044] = .ok (.mmioReadGpioPadKeep1, []) := by decide

/-- 30 R102, R106: the write of each register of this group, at its address. -/
theorem test_decode_write_gpio_0x28_to_0x44 :
    decode [0x00000051, 0x80000028, 0x2C] = .ok (.mmioWriteGpioDataSel0 0x2C, []) ∧
    decode [0x00000051, 0x8000002C, 0x2C] = .ok (.mmioWriteGpioDataSel1 0x2C, []) ∧
    decode [0x00000051, 0x80000030, 0x2C] = .ok (.mmioWriteGpioPadPuSel0 0x2C, []) ∧
    decode [0x00000051, 0x80000034, 0x2C] = .ok (.mmioWriteGpioPadPuSel1 0x2C, []) ∧
    decode [0x00000051, 0x80000038, 0x2C] = .ok (.mmioWriteGpioPadHystEn0 0x2C, []) ∧
    decode [0x00000051, 0x8000003C, 0x2C] = .ok (.mmioWriteGpioPadHystEn1 0x2C, []) ∧
    decode [0x00000051, 0x80000040, 0x2C] = .ok (.mmioWriteGpioPadKeep0 0x2C, []) ∧
    decode [0x00000051, 0x80000044, 0x2C] = .ok (.mmioWriteGpioPadKeep1 0x2C, []) := by decide

/-- 30 R102, R106: the read of each register of this group, at its address. -/
theorem test_decode_read_gpio_0x48_to_0x64 :
    decode [0x00000050, 0x80000048] = .ok (.mmioReadGpioDataSet0, []) ∧
    decode [0x00000050, 0x8000004C] = .ok (.mmioReadGpioDataSet1, []) ∧
    decode [0x00000050, 0x80000050] = .ok (.mmioReadGpioDataReset0, []) ∧
    decode [0x00000050, 0x80000054] = .ok (.mmioReadGpioDataReset1, []) ∧
    decode [0x00000050, 0x80000058] = .ok (.mmioReadGpioPadDirSet0, []) ∧
    decode [0x00000050, 0x8000005C] = .ok (.mmioReadGpioPadDirSet1, []) ∧
    decode [0x00000050, 0x80000060] = .ok (.mmioReadGpioPadDirReset0, []) ∧
    decode [0x00000050, 0x80000064] = .ok (.mmioReadGpioPadDirReset1, []) := by decide

/-- 30 R102, R106: the write of each register of this group, at its address. -/
theorem test_decode_write_gpio_0x48_to_0x64 :
    decode [0x00000051, 0x80000048, 0x2C] = .ok (.mmioWriteGpioDataSet0 0x2C, []) ∧
    decode [0x00000051, 0x8000004C, 0x2C] = .ok (.mmioWriteGpioDataSet1 0x2C, []) ∧
    decode [0x00000051, 0x80000050, 0x2C] = .ok (.mmioWriteGpioDataReset0 0x2C, []) ∧
    decode [0x00000051, 0x80000054, 0x2C] = .ok (.mmioWriteGpioDataReset1 0x2C, []) ∧
    decode [0x00000051, 0x80000058, 0x2C] = .ok (.mmioWriteGpioPadDirSet0 0x2C, []) ∧
    decode [0x00000051, 0x8000005C, 0x2C] = .ok (.mmioWriteGpioPadDirSet1 0x2C, []) ∧
    decode [0x00000051, 0x80000060, 0x2C] = .ok (.mmioWriteGpioPadDirReset0 0x2C, []) ∧
    decode [0x00000051, 0x80000064, 0x2C] = .ok (.mmioWriteGpioPadDirReset1 0x2C, []) := by decide

/-- 30 R102, R107: the read of each register of this group, at its address. -/
theorem test_decode_read_uart_0x00_to_0x08 :
    decode [0x00000050, 0x80005000] = .ok (.mmioReadUcon0, []) ∧
    decode [0x00000050, 0x8000B000] = .ok (.mmioReadUcon1, []) ∧
    decode [0x00000050, 0x80005004] = .ok (.mmioReadUstat0, []) ∧
    decode [0x00000050, 0x8000B004] = .ok (.mmioReadUstat1, []) ∧
    decode [0x00000050, 0x80005008] = .ok (.mmioReadUdata0, []) ∧
    decode [0x00000050, 0x8000B008] = .ok (.mmioReadUdata1, []) := by decide

/-- 30 R102, R107: the write of each register of this group, at its address. -/
theorem test_decode_write_uart_0x00_to_0x08 :
    decode [0x00000051, 0x80005000, 0x2C] = .ok (.mmioWriteUcon0 0x2C, []) ∧
    decode [0x00000051, 0x8000B000, 0x2C] = .ok (.mmioWriteUcon1 0x2C, []) ∧
    decode [0x00000051, 0x80005004, 0x2C] = .ok (.mmioWriteUstat0 0x2C, []) ∧
    decode [0x00000051, 0x8000B004, 0x2C] = .ok (.mmioWriteUstat1 0x2C, []) ∧
    decode [0x00000051, 0x80005008, 0x2C] = .ok (.mmioWriteUdata0 0x2C, []) ∧
    decode [0x00000051, 0x8000B008, 0x2C] = .ok (.mmioWriteUdata1 0x2C, []) := by decide

/-- 30 R102, R107: the read of each register of this group, at its address. -/
theorem test_decode_read_uart_0x0C_to_0x18 :
    decode [0x00000050, 0x8000500C] = .ok (.mmioReadUrxcon0, []) ∧
    decode [0x00000050, 0x8000B00C] = .ok (.mmioReadUrxcon1, []) ∧
    decode [0x00000050, 0x80005010] = .ok (.mmioReadUtxcon0, []) ∧
    decode [0x00000050, 0x8000B010] = .ok (.mmioReadUtxcon1, []) ∧
    decode [0x00000050, 0x80005014] = .ok (.mmioReadUcts0, []) ∧
    decode [0x00000050, 0x8000B014] = .ok (.mmioReadUcts1, []) ∧
    decode [0x00000050, 0x80005018] = .ok (.mmioReadUbrcnt0, []) ∧
    decode [0x00000050, 0x8000B018] = .ok (.mmioReadUbrcnt1, []) := by decide

/-- 30 R102, R107: the write of each register of this group, at its address. -/
theorem test_decode_write_uart_0x0C_to_0x18 :
    decode [0x00000051, 0x8000500C, 0x2C] = .ok (.mmioWriteUrxcon0 0x2C, []) ∧
    decode [0x00000051, 0x8000B00C, 0x2C] = .ok (.mmioWriteUrxcon1 0x2C, []) ∧
    decode [0x00000051, 0x80005010, 0x2C] = .ok (.mmioWriteUtxcon0 0x2C, []) ∧
    decode [0x00000051, 0x8000B010, 0x2C] = .ok (.mmioWriteUtxcon1 0x2C, []) ∧
    decode [0x00000051, 0x80005014, 0x2C] = .ok (.mmioWriteUcts0 0x2C, []) ∧
    decode [0x00000051, 0x8000B014, 0x2C] = .ok (.mmioWriteUcts1 0x2C, []) ∧
    decode [0x00000051, 0x80005018, 0x2C] = .ok (.mmioWriteUbrcnt0 0x2C, []) ∧
    decode [0x00000051, 0x8000B018, 0x2C] = .ok (.mmioWriteUbrcnt1 0x2C, []) := by decide

/-- 95 E1 to E4: reserved bits, no such opcode, too few words. -/
theorem test_decode_refusals :
    decode [0x00000100] = .error .reservedBits ∧ decode [0x0000000B] = .error .illegalOp ∧
    decode [0x000000FF] = .error .illegalOp ∧ decode [0x00000001, 0, 0xFF] = .error .truncatedCommand := by decide

/-- Log 2: the table's word of a command row is its header, of a register row its address. -/
theorem test_table_words :
    decodeTableWord 32 0x00000033 = some (.uartSend 0 0 0) ∧
    decodeTableWord 32 0x8000B018 = some .mmioReadUbrcnt1 ∧ decodeTableWord 32 0x0000000B = none := by decide

/-! ### GPIO operations: 95 L2.3, 41 -/

theorem test_set_port_dir_in :
    gives (fun t => (t.gpio.dir.at1, t.cur.ret)) (exec (.gpioSetPortDir 1 3 0) { base with gpio.dir.at1 := 7 }) =
      some (4, some 0) := by decide

/-- 95 P2. -/
theorem test_set_port_dir_bad :
    gives (fun t => (t.gpio.dir.at0, t.cur.ret, t.lastError)) (exec (.gpioSetPortDir 0 1 2) base) =
      some (0, some 0xFFFFFFFF, .invalidParameter) := by decide

theorem test_set_pin_dir_31 :
    gives (fun t => t.gpio.dir.at0) (exec (.gpioSetPinDir 31 1) base) = some 0x80000000 := by decide

theorem test_set_pin_dir_63 :
    gives (fun t => (t.gpio.dir.at0, t.gpio.dir.at1)) (exec (.gpioSetPinDir 63 1) base) =
      some (0, 0x80000000) := by decide

theorem test_set_port :
    gives (fun t => t.gpio.data.at1) (exec (.gpioSetPort 1 0x80000001) base) = some 0x80000001 := by decide

/-- 95 P7. -/
theorem test_set_port_empty_mask :
    gives (fun t => t.gpio.data.at1) (exec (.gpioSetPort 1 0) { base with gpio.data.at1 := 5 }) = some 5 := by decide

/-- 95 P8. -/
theorem test_clear_port :
    gives (fun t => t.gpio.data.at0) (exec (.gpioClearPort 0 0xFF00) { base with gpio.data.at0 := 0xFFFFFFFF }) =
      some 0xFFFF00FF := by decide

/-- 41 R185. -/
theorem test_set_pin :
    gives (fun t => t.gpio.data.at1) (exec (.gpioSetPin 44) base) = some 0x00001000 := by decide

theorem test_set_pin_bad : retOf (.gpioSetPin 0xFFFFFFFF) base = some (some 0xFFFFFFFF) := by decide

/-- 95 L3.1, step 5. -/
theorem test_clear_pin :
    gives (fun t => t.gpio.data.at1) (exec (.gpioClearPin 44) { base with gpio.data.at1 := 0x1001 }) = some 1 := by
  decide

/-- 95 P9: an output in normal function reads its latch. -/
theorem test_get_port :
    gives (fun t => (t.cur.ret, t.cur.out))
      (exec (.gpioGetPort 0) { base with gpio.dir.at0 := 0xFFFFFFFF, gpio.data.at0 := 0x12345678 }) =
      some (some 0, some 0x12345678) := by decide

/-- 41 R188. -/
theorem test_get_pin :
    gives (fun t => t.cur.out)
      (exec (.gpioGetPin 44) { base with gpio.dir.at1 := 0xFFFFFFFF, gpio.data.at1 := 0x00001000 }) =
      some (some 1) := by decide

/-- 95 P10. -/
theorem test_get_pin_bad : retOf (.gpioGetPin 64) base = some (some 0xFFFFFFFF) := by decide

/-- 95 P13: two registers, low half first. -/
theorem test_set_port_func :
    gives (fun t => (t.gpio.funcSel.at0, t.gpio.funcSel.at1, t.fselPending))
      (exec (.gpioSetPortFunc 0 2 0x00018000) base) = some (0x80000000, 2, none) := by decide

/-- 95 P14: only the low half of port 1. -/
theorem test_set_port_func_half :
    gives (fun t => (t.gpio.funcSel.at2, t.gpio.funcSel.at3))
      (exec (.gpioSetPortFunc 1 0 0x0000FFFF)
        { base with gpio.funcSel.at2 := 0xFFFFFFFF, gpio.funcSel.at3 := 0xFFFFFFFF }) =
      some (0, 0xFFFFFFFF) := by decide

/-- 95 P12. -/
theorem test_set_pin_func_16 :
    gives (fun t => (t.gpio.funcSel.at0, t.gpio.funcSel.at1)) (exec (.gpioSetPinFunc 16 3) base) =
      some (0, 3) := by decide

/-- 41 R190's preemption point: with no step left after the read, the register is unchanged and the read is pending. -/
theorem test_set_pin_func_preempted :
    gives (fun t => (t.gpio.funcSel.at0, t.fselPending, t.cur.pc))
      (exec (.gpioSetPinFunc 15 2) { base with slice := 0 }) =
      some (0, some (.zero, 0), 0) := by decide

/-! ### Critical sections: 95 L2.4 -/

/-- S2. -/
theorem test_disable_interrupts :
    gives (fun t => (t.cur.ret, t.cpu.i, t.cpu.f)) (exec .csDisableInterrupts { base with cpu.i := false }) =
      some (some 0x40, true, true) := by decide

/-- S3. -/
theorem test_restore_interrupts :
    gives (fun t => (t.cpu.i, t.cpu.f)) (exec (.csRestoreInterrupts 0x40) base) = some (false, true) := by decide

/-- S5. -/
theorem test_disable_irq :
    gives (fun t => (t.cur.ret, t.cpu.f)) (exec .csDisableIrq { base with cpu.f := false }) =
      some (some 0x80, false) := by decide

/-- S10. -/
theorem test_disable_irq_unprivileged :
    gives (fun t => (t.cur.ret, t.cpu.i)) (exec .csDisableIrq { unpriv with cpu.i := false }) =
      some (some 0, false) := by decide

/-- S7. -/
theorem test_restore_irq :
    gives (fun t => (t.cpu.i, t.cpu.f)) (exec (.csRestoreIrq 0xFFFFFF7F) base) = some (false, true) := by decide

/-- S11. -/
theorem test_restore_irq_unprivileged :
    gives (fun t => (t.cpu.i, t.cur.ret)) (exec (.csRestoreIrq 0) unpriv) = some (true, some 0) := by decide

/-- S8. -/
theorem test_disable_fiq :
    gives (fun t => (t.cur.ret, t.cpu.i, t.cpu.f)) (exec .csDisableFiq { base with cpu.i := false }) =
      some (some 0x40, false, true) := by decide

/-- S9. -/
theorem test_restore_fiq :
    gives (fun t => (t.cpu.i, t.cpu.f)) (exec (.csRestoreFiq 0x80) base) = some (true, false) := by decide

/-- S13, the store. -/
theorem test_set_handler :
    gives (fun t => (t.cpu.handlers.irq, t.cpu.handlers.fiq)) (exec (.csSetHandler 6 0x1234) base) =
      some (0x1234, 0) := by decide

/-- S14. -/
theorem test_set_handler_bad : refusalOfStep (exec (.csSetHandler 5 0) base) = some .badExceptionKind := by decide

/-- S13, the load. -/
theorem test_get_handler : retOf (.csGetHandler 6) { base with cpu.handlers.irq := 0x1234 } = some (some 0x1234) := by
  decide

/-- S15. -/
theorem test_get_handler_bad : refusalOfStep (exec (.csGetHandler 8) base) = some .badExceptionKind := by decide

/-! ### Circular buffers: 95 L2.5 -/

/-- B9: a repeated `init` empties. -/
theorem test_cb_init :
    gives (fun t => t.cb[4]?) (exec (.cbInit 4 0x00401000 3) { base with cb := List.replicate 8 (buf 3 [1, 2]) }) =
      some (some ⟨true, 3, 0x00401000, 0, 0, 0, []⟩) := by decide

/-- B1, B2. -/
theorem test_cb_init_refused :
    refusalOfStep (exec (.cbInit 8 0 1) base) = some .badHandle ∧
    refusalOfStep (exec (.cbInit 4 0 0) base) = some .cbCapacityZero := by decide

/-- B4: a full buffer of capacity 1 is not empty. -/
theorem test_cb_is_empty :
    retOf (.cbIsEmpty 4) (live [] []) = some (some 1) ∧
    retOf (.cbIsEmpty 0) { base with cb := [buf 1 [0xFF]] } = some (some 0) := by decide

/-- B14: the handle check comes first. -/
theorem test_cb_is_empty_refused : refusalOfStep (exec (.cbIsEmpty 9) base) = some .badHandle := by decide

/-- L1.3: full exactly after `capacity` writes. -/
theorem test_cb_is_full :
    retOf (.cbIsFull 0) { base with cb := [buf 3 [1, 2, 3]] } = some (some 1) ∧
    retOf (.cbIsFull 0) { base with cb := [buf 3 [1, 2]] } = some (some 0) := by decide

/-- B8: the write cursor wraps; bits 31..8 are ignored. -/
theorem test_cb_write :
    gives (fun t => t.cb.map (fun b => (b.r, b.w, b.count, b.storage.get 0)))
      (exec (.cbWrite 0 0x144) { base with cb := [⟨true, 3, 0, 1, 0, 2, [(1, 0x22), (2, 0x33)]⟩] }) =
      some [(1, 1, 3, some 0x44)] := by decide

/-- B3, B5, B10. -/
theorem test_cb_write_faults :
    faultOf (exec (.cbWrite 4 1) base) = some .cbUninitialized ∧
    faultOf (exec (.cbWrite 0 0) { base with cb := [buf 1 [0xFF]] }) = some .cbWriteFull ∧
    faultOf (exec (.cbWrite 1 0x41) { live [] [] with cpu.i := false, uart.at0.ucon := openUcon }) =
      some .disciplineViolation := by decide

/-- R256: the read cursor wraps. -/
theorem test_cb_read :
    gives (fun t => (t.cur.ret, t.cb.map (fun b => (b.r, b.count))))
      (exec (.cbRead 0) { base with cb := [⟨true, 3, 0, 2, 0, 1, [(2, 0x41)]⟩] }) =
      some (some 0x41, [(0, 0)]) := by decide

/-- B7. -/
theorem test_cb_read_empty : faultOf (exec (.cbRead 4) (live [] [])) = some .cbReadEmpty := by decide

/-! ### Registers: 95 L2.2, L2.6 -/

/-- G1 to G4, by the rows. -/
theorem test_set_reset_registers :
    gives (fun t => t.gpio.dir.at0) (exec (.mmioWriteGpioPadDirSet0 5) { base with gpio.dir.at0 := 0x100 }) =
      some 0x105 ∧
    gives (fun t => t.gpio.dir.at0) (exec (.mmioWriteGpioPadDirReset0 0x100) { base with gpio.dir.at0 := 0x105 }) =
      some 5 ∧
    gives (fun t => t.gpio.data.at1) (exec (.mmioWriteGpioDataSet1 0x80000000) base) = some 0x80000000 ∧
    gives (fun t => t.gpio.data.at1) (exec (.mmioWriteGpioDataReset1 1) { base with gpio.data.at1 := 0x80000001 }) =
      some 0x80000000 := by decide

/-- G5: a read of a write port changes nothing but the count of draws. -/
theorem test_write_port_read :
    gives (fun t => (t.gpio, t.draws)) (exec .mmioReadGpioDataSet0 base) = some (base.gpio, 1) := by decide

/-- G6, G7, G8. -/
theorem test_bus_read_stops :
    faultOf (exec (.busRead 0x80000002) base) = some .badAccessWidth ∧
    faultOf (exec (.busRead 0x80000068) base) = some .noStep ∧
    faultOf (exec .mmioReadGpioPadDir0 unpriv) = some .unprivilegedMmio := by decide

theorem test_bus_write_stops :
    faultOf (exec (.busWrite 0x8000501A 7) base) = some .badAccessWidth ∧
    faultOf (exec (.busWrite 0x00400000 7) base) = some .noStep := by decide

/-- G9, G10, G11. -/
theorem test_func_sel_write :
    faultOf (exec (.mmioWriteGpioFuncSel0 0x10000000) base) = some .pinMuxBeforeEnable ∧
    gives (fun t => t.gpio.funcSel.at0) (exec (.mmioWriteGpioFuncSel0 0x10000000) (live [] [])) = some 0x10000000 ∧
    gives (fun t => t.gpio.funcSel.at0) (exec (.mmioWriteGpioFuncSel0 0x20000000) base) = some 0x20000000 := by decide

/-- P17, P18: the callback's write of the register the foreground has read, and of another. -/
theorem test_func_sel_race :
    faultOf (exec (.mmioWriteGpioFuncSel2 0) { inIsr (live [] []) [.callback 3] with fselPending := some (.two, 0) }) =
      some .funcSelRace ∧
    gives (fun t => t.gpio.funcSel.at3)
      (exec (.mmioWriteGpioFuncSel3 8) { inIsr (live [] []) [.callback 3] with fselPending := some (.two, 0) }) =
      some 8 := by decide

/-- G12, G14: outputs in normal function, and inputs whose bits DATA_SEL takes from the latch. -/
theorem test_data_read :
    retOf .mmioReadGpioData1 { base with gpio.dir.at1 := 0xFFFFFFFF, gpio.data.at1 := 0x1000 } =
      some (some 0x1000) ∧
    retOf .mmioReadGpioData0 { base with gpio.dataSel.at0 := 0xFFFFFFFF, gpio.data.at0 := 1 } =
      some (some 1) := by decide

/-- G15: storage only. -/
theorem test_pull_select :
    gives (fun t => t.gpio.puSel.at0) (exec (.mmioWriteGpioPadPuSel0 5) base) = some 5 ∧
    retOf .mmioReadGpioPadPuSel0 { base with gpio.puSel.at0 := 5 } = some (some 5) := by decide

/-- U3, U4, U5. -/
theorem test_ucon_write :
    refusalOfStep (exec (.mmioWriteUcon0 0x20) base) = some .unmodelledField ∧
    refusalOfStep (exec (.mmioWriteUcon0 0x8003) base) = some .loopbackUnmodelled ∧
    gives (fun t => t.uart.at0.ucon) (exec (.mmioWriteUcon0 0x601F) base) =
      some ⟨true, true, true, true, true, false, true, true⟩ := by decide

/-- R280's example, U1. -/
theorem test_ucon_read :
    retOf .mmioReadUcon0 (live [] []) = some (some 0x4003) ∧ retOf .mmioReadUcon0 base = some (some 0) := by decide

/-- U6: the flags, and the clearing of the latched ones. -/
theorem test_ustat_read :
    gives (fun t => (t.cur.ret, t.uart.at0.err.fe))
      (exec .mmioReadUstat0 { live [] [] with uart.at0.err.fe := true, uart.at0.rxfifo := [0x41] }) =
      some (some 0xC4, false) := by decide

/-- U2. -/
theorem test_ustat_read_reset : retOf .mmioReadUstat0 base = some (some 0xC0) := by decide

/-- U8, U16: the rows that stop on every path. -/
theorem test_unmodelled_registers :
    refusalOfStep (exec (.mmioWriteUstat0 0) base) = some .ustatWrite ∧
    refusalOfStep (exec .mmioReadUcts0 base) = some .unmodelledRegister := by decide

/-- U9, U10. -/
theorem test_udata_read :
    faultOf (exec .mmioReadUdata0 base) = some .udataReadEmpty ∧
    gives (fun t => (t.cur.ret, t.uart.at0.rxfifo))
      (exec .mmioReadUdata0 { base with uart.at0.rxfifo := [0x41, 0x42] }) =
      some (some 0x41, [0x42]) := by decide

/-- U11, U12. -/
theorem test_udata_write :
    faultOf (exec (.mmioWriteUdata0 0x55) { base with uart.at0.txfifo := List.replicate 32 0 }) =
      some .udataWriteFull ∧
    gives (fun t => t.uart.at0.txfifo) (exec (.mmioWriteUdata0 0x141) base) = some [0x41] := by decide

/-- U13, U14. -/
theorem test_fifo_levels :
    retOf .mmioReadUtxcon0 { base with uart.at0.txfifo := [1, 2] } = some (some 30) ∧
    retOf .mmioReadUrxcon1 { base with uart.at1.rxfifo := [1, 2, 3] } = some (some 3) := by decide

/-- U15, R289. -/
theorem test_thresholds :
    gives (fun t => t.uart.at0.rxThr) (exec (.mmioWriteUrxcon0 0x41) base) = some 1 ∧
    gives (fun t => t.uart.at1.txThr) (exec (.mmioWriteUtxcon1 31) base) = some 31 := by decide

/-- U17. -/
theorem test_ubrcnt :
    gives (fun t => (t.uart.at0.ubrInc, t.uart.at0.ubrMod)) (exec (.mmioWriteUbrcnt0 0x003F270F) base) =
      some (63, 9999) ∧
    retOf .mmioReadUbrcnt0 (live [] []) = some (some 0x02FF270F) := by decide

/-- 95's table: the largest rate that does not overflow, the next, and `q = 1`. -/
theorem test_baud :
    baudReg 24000000 429539 = .ok 0x0B2F270F ∧ baudReg 24000000 429540 = .fault .baudOverflow ∧
    baudReg 16 6 = .ok 0xEA5A270F ∧ baudReg 16 7 = .fault .baudDivisorRange := by decide

/-! ### UART driver: 95 L2.7 -/

/-- R342's example. -/
theorem test_uart_init :
    gives (fun t => (t.uart.at0.ucon.word, t.gpio.funcSel.at0, t.gpio.funcSel.at1, t.gpio.dir.at0, t.cur.ret))
      (exec (.uartInit 0 115200 0x00400000) base) = some (0x4003, 0x50000000, 5, 0x14000, some 0) := by decide

/-- D2, D3. -/
theorem test_uart_init_faults :
    faultOf (exec (.uartInit 0 460800 0x00400100) base) = some .baudOverflow ∧
    faultOf (exec (.uartInit 0 9600 0x00400100) (live [] [])) = some .uartReinit := by decide

/-- D10. -/
theorem test_uart_send_byte :
    gives (fun t => (t.uart.at0.txfifo, t.uart.at0.ucon.mtxr, t.cb[1]?.map Cb.count, t.cur.ret))
      (exec (.uartSendByte 0 0x42) (live [] [0x41])) = some ([0x41, 0x42], true, some 0, some 0) := by decide

/-- D4, L1.7: the id check comes before the initialisation check. -/
theorem test_uart_send_byte_stops :
    faultOf (exec (.uartSendByte 1 0x55) base) = some .uartNotInitialized ∧
    retOf (.uartSendByte 2 0x41) base = some (some 0xFFFFFFFF) := by decide

/-- D11. -/
theorem test_uart_receive_byte :
    gives (fun t => (t.cur.ret, t.uart.at1.rxfifo))
      (exec (.uartReceiveByte 1) { live [] [] with uart.at1.rxfifo := [0x7A] }) = some (some 0x7A, []) := by decide

/-- R344: with no byte the receive interrupt is masked and the command waits. -/
theorem test_uart_receive_byte_waits :
    gives (fun t => (t.uart.at0.ucon.mrxr, t.cur.pc, t.cur.todo)) (exec (.uartReceiveByte 0) (live [] [])) =
      some (true, 0, [.waitRx .zero, .recvByteData .zero false]) := by decide

/-- L1.4, with room for one of two bytes. -/
theorem test_uart_send :
    gives (fun t => (t.cur.ret, t.cb[1]?.map Cb.bytes, t.uart.at0.ucon.mtxr))
      (exec (.uartSend 0 0x00400000 2) { live [] [1, 2, 3] with mem := [(0x00400000, 0x41), (0x00400001, 0x42)] }) =
      some (some 1, some [1, 2, 3, 0x41], false) := by decide

/-- D9: the first byte is enqueued, then the read of a byte with no value faults. -/
theorem test_uart_send_unwritten :
    gives (fun t => (t.cb[1]?.map Cb.bytes, t.cur.todo))
      (exec (.uartSend 0 0x00400000 2) { live [] [] with mem := [(0x00400000, 0x41)] }) =
      some (some [0x41], [.sendLoad .zero 0x00400000 2 1]) ∧
    faultOf (exec (.uartSend 0 0x00400000 2)
      { live [] [] with mem := [(0x00400000, 0x41)], cur.todo := [.sendLoad .zero 0x00400000 2 1] }) =
      some .unwrittenMemory := by decide

/-- D12. -/
theorem test_uart_receive :
    gives (fun t => (t.cur.ret, t.mem, t.uart.at0.ucon.mrxr))
      (exec (.uartReceive 0 0x00400100 10) (live [0x31, 0x32] [])) =
      some (some 2, [(0x00400100, 0x31), (0x00400101, 0x32)], false) := by decide

/-- L1.5. -/
theorem test_uart_receive_empty :
    gives (fun t => (t.cur.ret, t.mem)) (exec (.uartReceive 0 0x00400100 10) (live [] [])) = some (some 0, []) := by
  decide

/-- R347's example, D5, D6. -/
theorem test_uart_callbacks :
    gives (fun t => t.uart.at0.rxCb) (exec (.uartSetRxCallback 0 1) { base with params.callbacks := [(1, [])] }) =
      some 1 ∧
    gives (fun t => t.uart.at1.txCb) (exec (.uartSetTxCallback 1 0) { base with uart.at1.txCb := 3 }) = some 0 ∧
    refusalOfStep (exec (.uartSetTxCallback 0 7) base) = some .unknownCallback := by decide

/-! ### Interrupt controller: 95 L2.8 -/

/-- I1 to I3, R391. -/
theorem test_itc_set_priority :
    refusalOfStep (exec (.itcSetPriority 11 0) base) = some .badSource ∧
    refusalOfStep (exec (.itcSetPriority 1 2) base) = some .badLevel ∧
    refusalOfStep (exec (.itcSetPriority 1 1) base) = some .fastSourceUnmodelled ∧
    retOf (.itcSetPriority 1 0) base = some (some 0) := by decide

/-- I4, I6. -/
theorem test_itc_set_handler :
    refusalOfStep (exec (.itcSetHandler 1 3) base) = some .unknownIsrHandler ∧
    gives (fun t => t.itc[2]?.map ItcEntry.handler) (exec (.itcSetHandler 2 2) base) =
      some (some (some .one)) := by decide

/-- I5, R393. -/
theorem test_itc_enable_interrupt :
    faultOf (exec (.itcEnableInterrupt 1) unpriv) = some .unprivilegedMmio ∧
    gives (fun t => t.itc[1]?.map ItcEntry.enabled) (exec (.itcEnableInterrupt 1) base) = some (some true) := by decide

/-! ### Steps of the machine -/

/-- U18: a byte at a full FIFO is lost and latches overrun. -/
theorem test_step_receive_lost :
    gives (fun t => (t.uart.at0.err.roe, t.uart.at0.rxfifo.length, t.history))
      (step { live [] [] with uart.at0.rxfifo := List.replicate 32 0, sched := [.rxl .zero 0x99] }) =
      some (true, 32, [.wireRxLost .zero 0x99]) := by decide

/-- U19. -/
theorem test_step_transmit :
    gives (fun t => (t.uart.at0.txfifo, t.history))
      (step { live [] [] with uart.at0.txfifo := [0x41], sched := [.txs .zero] }) =
      some ([], [.wireTx .zero 0x41]) := by decide

/-- I8: entry. -/
theorem test_step_interrupt_entry :
    gives (fun t => (t.ctx, t.cpu.i, t.saved, t.history))
      (step { live [] [] with uart.at0.rxfifo := [1], cpu.i := false, sched := [.core 1] }) =
      some (.isr 1, true, some ⟨Context.start, false, true⟩, [.irqEnter 1]) := by decide

/-- I9, I7: masked, or with no handler, no entry. -/
theorem test_step_no_entry :
    gives (fun t => t.ctx) (step { live [] [] with uart.at0.rxfifo := [1], sched := [.core 1] }) = some .fg ∧
    gives (fun t => t.ctx)
      (step { live [] [] with
        uart.at0.rxfifo := [1], cpu.i := false, sched := [.core 1]
        itc := List.replicate 11 ⟨true, .normal, none⟩ }) =
      some .fg := by decide

/-- D13 with capacity 4: one byte moved, receive masked, transmit branch skipped, back in the foreground. -/
theorem test_step_isr_receive :
    gives (fun t => (t.uart.at0.rxfifo, t.cb[0]?.map Cb.bytes, t.uart.at0.ucon.word, t.ctx))
      (step { inIsr (live [1, 2, 3] []) [.isrStatus .zero] with uart.at0.rxfifo := [4, 5, 6], sched := [.run 100] }) =
      some ([5, 6], some [1, 2, 3, 4], 0x6003, .fg) := by decide

/-- D14: the transmit branch empties the buffer and masks. -/
theorem test_step_isr_transmit :
    gives (fun t => (t.uart.at0.txfifo, t.cb[1]?.map Cb.count, t.uart.at0.ucon.word, t.history))
      (step { inIsr (live [] [0x41, 0x42]) [.isrStatus .zero] with
        uart.at0.ucon := openUcon, sched := [.run 100] }) =
      some ([0x41, 0x42], some 0, 0x4003, [.irqReturn 1]) := by decide

/-- D15: an interrupt deliverable in an unmasked ISR. -/
theorem test_step_nested :
    gives (fun t => t.faults)
      (step { inIsr (live [] []) [.callback 3] with cpu.i := false, uart.at0.rxfifo := [1], sched := [.core 1] }) =
      some [.nestedInterrupt] := by decide

/-- D16: the invocation, and the callback's first command. -/
theorem test_step_callback :
    gives (fun t => (t.history, t.cur.pc))
      (step { inIsr (live [] []) [.invoke .zero .rx 3, .isrRxEnd .zero 0] with
        params.callbacks := [(3, [0x12])], sched := [.run 0] }) = some ([.callbackInvoked .zero .rx 3], 0) ∧
    gives (fun t => (t.cur.ret, t.cur.pc))
      (step { inIsr (live [] []) [.callback 3, .isrRxEnd .zero 0] with
        params.callbacks := [(3, [0x12])], sched := [.run 1] }) = some (some 0x80, 1) := by decide

/-- R1 to R3: bad parameters. -/
theorem test_step_parameters :
    gives (fun t => t.refusals) (step { base with params.txFifoDepth := 30 }) = some [.parameterConstraint] ∧
    gives (fun t => t.refusals) (step { base with cb := List.replicate 3 Cb.reset }) = some [.parameterConstraint] ∧
    gives (fun t => t.refusals) (step { base with params.uartIrqSrc := ⟨1, 1⟩ }) = some [.parameterConstraint] := by
  decide

/-- R4: with no program the run ends at once. -/
theorem test_step_empty_program : faultOf (step base) = some .runEnded := by decide

/-- L3.4: the fault is recorded, and the next step answers it. -/
theorem test_step_fault_recorded :
    gives (fun t => (t.faults, t.cur.pc, t.history, faultOf (step t)))
      (step { base with params.program := [0x31, 1, 0x55, 5, 0] }) =
      some ([.uartNotInitialized], 0, [.fault .uartNotInitialized], some .uartNotInitialized) := by decide

/-- A command placed for the next step is fetched and run. -/
theorem test_fetch_word :
    gives (fun t => (t.cur.ret, t.cur.pc)) (step (State.reset.withFetchWord 32 0x10)) = some (some 0xC0, 1) ∧
    gives (fun t => (t.cur.ret, t.cur.pc)) (step (State.reset.withFetchWord 32 0x80005004)) = some (some 0xC0, 2) := by
  decide

/-! ### For each statement with hypotheses, a state and operands that meet them -/

/-- The hypotheses of the statements that ask only for a command boundary in one of the two modes. -/
def BothModes : Prop :=
  (Ready base ∧ base.mode = .privileged) ∧ (Ready unpriv ∧ unpriv.mode = .unprivileged)

theorem witness_both_modes : BothModes :=
  ⟨⟨⟨rfl, by decide⟩, rfl⟩, ⟨⟨rfl, by decide⟩, rfl⟩⟩

/-- A program loaded, and the schedule's next turn the program's. -/
def placed (ws : List Word) : State := { base with params.program := ws, sched := [.run 5] }

theorem running_placed (ws : List Word) : Running (placed ws) :=
  ⟨(show launchRefused (placed ws) = launchRefused base from rfl).trans (by decide), rfl, rfl⟩

/-- A callback of program `ws` running in an ISR. -/
def inCallback (ws : List Word) : State :=
  { inIsr (live [] []) [.callback 3, .isrRxEnd .zero 0] with params.callbacks := [(3, ws)], sched := [.run 5] }

/-- UART 0 live and its buffers unguarded. -/
def exposed : State := { live [] [] with cpu.i := false, uart.at0.ucon := openUcon }

theorem inv_buf_3 : Cb.Inv (buf 3 []) := by unfold Cb.Inv; decide

theorem inv_buf_0 : Cb.Inv (buf 4 []) := by unfold Cb.Inv; decide

theorem inv_buf_1 (b : Byte) : Cb.Inv (buf 4 [b]) :=
  ⟨rfl, fun _ => ⟨(by decide : 0 < 4), (by decide : 1 < 4), (by decide : 1 ≤ 4), rfl, fun j hj => by
    obtain rfl : j = 0 := Nat.lt_one_iff.mp hj
    rfl⟩⟩

theorem no_race_fg {s : State} (h : s.ctx = .fg) (k : Four) : ¬ Race s k := fun r => r.1 h

/-- With interrupts masked no buffer access breaks the discipline. -/
theorem no_violation_masked {s : State} (h : s.cpu.i = true) (b : Nat) : ¬ Violation s b := fun v => by
  have := v.2.2.1.2.1
  rw [h] at this
  cases this

/-- With both UARTs enabled no pin is given away too early. -/
theorem no_mux_live (rx tx : List Byte) (k : Four) (v : Word) : ¬ MuxTooEarly (live rx tx) k v := by
  rintro ⟨i, p, -, -, -, -, h⟩
  rcases h with h | h <;> cases i <;> cases h

theorem witness_DecodeOfEncode :
    WellFormed (.busRead 0x80000068) ∧ WellFormed (.busWrite 0x80000002 7) ∧ WellFormed (.uartSend 0 1 2) ∧
    WellFormed .mmioReadUcts1 := by decide

theorem witness_DecodeIsCanonical : decode [0x10, 7] = .ok (.csDisableInterrupts, [7]) := by decide

/-- One header for each clause, the first at the lowest reserved bit. -/
theorem witness_DecodeRefusals :
    (0x100#32).extractLsb' 8 24 ≠ 0 ∧
    ((0x0B#32).extractLsb' 8 24 = 0 ∧ ∀ n, ((0x0B#32).toNat, n) ∉ argCounts) ∧
    (((0x01#32).toNat, 3) ∈ argCounts ∧ [0#32, 0xFF].length < 3) ∧
    (((0x01#32).toNat, 3) ∈ argCounts ∧ 3 ≤ [0#32, 0xFF, 1].length) := by
  refine ⟨by decide, ⟨by decide, fun n h => ?_⟩, by decide, by decide⟩
  simp [argCounts] at h

/-- The last register of the GPIO window, and the address after it. -/
theorem witness_EveryAlignedAddressIsMapped :
    (inWindow 0x80000064 = true ∧ (0x80000064#32).toNat % 4 = 0) ∧ inWindow 0x80000068 = false ∧
    regAt 0x8000B018 = some (.ubrcnt .one) := by decide

/-- The first and the last byte of RAM. -/
theorem witness_InvariantsAtLaunch :
    Mem.wf [(0x00400000, 0x41), (0x00417FFF, 0x42)] = true ∧
    ∀ c ∈ [(0x00400000, (0x41 : Byte)), (0x00417FFF, 0x42)], inRam c.1 = true := by decide

theorem witness_StepRunsForegroundCommand :
    (Running (placed [0x10]) ∧ (placed [0x10]).sched = [.run 5] ∧ (placed [0x10]).ctx = .fg ∧
      decode ((placed [0x10]).params.program.drop (placed [0x10]).cur.pc) = .ok (.csDisableInterrupts, [])) ∧
    (∃ t, exec .csDisableInterrupts (placed [0x10]) = .next t) ∧
    exec (.uartSendByte 1 0x55) (placed [0x31, 1, 0x55]) = .fault .uartNotInitialized ∧
    exec (.busRead 0) (placed [0x50, 0]) = .fault .noStep ∧
    exec (.itcEnableInterrupt 11) (placed [0x42, 11]) = .refused .badSource :=
  ⟨⟨running_placed _, rfl, rfl, rfl⟩, ⟨_, rfl⟩, rfl, rfl, rfl⟩

theorem witness_StepRunsCallbackCommand :
    (Running (inCallback [0x12]) ∧ (inCallback [0x12]).ctx = .isr 1 ∧
      callbackOf (inCallback [0x12]).cur.todo = some 3 ∧
      (inCallback [0x12]).params.callbacks.find? (fun c => c.1 == 3) = some (3, [0x12]) ∧
      decode ([0x12#32].drop (inCallback [0x12]).cur.pc) = .ok (.csDisableIrq, [])) ∧
    (∃ t, exec .csDisableIrq (inCallback [0x12]) = .next t) ∧
    exec (.uartInit 0 1 1) (inCallback [0x30, 0, 1, 1]) = .fault .uartReinit ∧
    exec (.busRead 0) (inCallback [0x50, 0]) = .fault .noStep ∧
    exec (.itcEnableInterrupt 11) (inCallback [0x42, 11]) = .refused .badSource :=
  ⟨⟨⟨rfl, rfl, rfl⟩, rfl, rfl, rfl, rfl⟩, ⟨_, rfl⟩, rfl, rfl, rfl⟩

theorem witness_StepWithoutCommand :
    (Running (placed []) ∧ (placed []).cur.todo = [] ∧ (placed []).cur.pc = (placed []).params.program.length) ∧
    (Running (placed [0x100]) ∧ decode ((placed [0x100]).params.program.drop 0) = .error .reservedBits) ∧
    (Running (placed [0x0B]) ∧ decode ((placed [0x0B]).params.program.drop 0) = .error .illegalOp) ∧
    (Running (placed [1, 0]) ∧ decode ((placed [1, 0]).params.program.drop 0) = .error .truncatedCommand) :=
  ⟨⟨running_placed _, rfl, rfl⟩, ⟨running_placed _, rfl⟩, ⟨running_placed _, rfl⟩, running_placed _, rfl⟩

theorem witness_NoProgramStepAfterAStop :
    (launchRefused { placed [] with faults := [.cbWriteFull] } = false) ∧
    (launchRefused { base with refusals := [.badSource], sched := [.core 1] } = false) := by decide

/-- Each constraint broken by one, the FIFO depths on both sides. -/
theorem witness_BadParametersAreRefused :
    base.refusals = [] ∧ 15 / 16 = 0 ∧ (List.replicate 3 Cb.reset).length < 4 ∧
    base.itc.length ≤ (⟨11, 2⟩ : Pair Nat).get .zero ∧ (⟨1, 1⟩ : Pair Nat).at0 = (⟨1, 1⟩ : Pair Nat).at1 ∧
    30 < 31 ∧ 63 < 64 ∧ 0 < 1 ∧
    (∃ p : Pin, p ∈ (⟨14, 15, 16, 17⟩ : UartPins).toList ∧ p ∈ (⟨17, 18, 19, 20⟩ : UartPins).toList) :=
  ⟨rfl, rfl, by decide, by decide, rfl, by decide, by decide, by decide, 17, by decide, by decide⟩

/-- A line turn for each clause; the receive FIFO one short of its depth, and at it. -/
theorem witness_LineAgentSteps :
    launchRefused (live [] []) = false ∧
    ({ liveUart with txfifo := [0x41] }.ucon.txe = true ∧ { liveUart with txfifo := [0x41] }.txfifo = [0x41]) ∧
    (Uart.reset 0).ucon.txe = false ∧
    (liveUart.ucon.rxe = true ∧ (List.replicate 31 (0 : Byte)).length < (live [] []).params.rxFifoDepth) ∧
    (live [] []).params.rxFifoDepth ≤ (List.replicate 32 (0 : Byte)).length ∧
    (Uart.reset 0).ucon.rxe = false ∧ (⟨false, false, true⟩ : LineErrors).fe = true ∧
    ((⟨false, false, false⟩ : LineErrors).se = false ∧ (⟨false, false, false⟩ : LineErrors).pe = false) := by decide

theorem witness_GpioRegisterReads : BothModes := witness_both_modes

theorem witness_GpioRegisterWrites : BothModes := witness_both_modes

theorem witness_GpioDataReads : BothModes := witness_both_modes

/-- Race, early multiplexing (of the last pin of register 0 and the first of register 1), and neither. -/
theorem witness_FuncSelWrites :
    BothModes ∧
    (Ready (inCallback []) ∧ (inCallback []).mode = .privileged ∧
      Race { inCallback [] with fselPending := some (.two, 5) } .two) ∧
    (¬ Race base .zero ∧ MuxTooEarly base .zero 0x40000000 ∧ MuxTooEarly base .one 1) ∧
    (¬ Race (live [] []) .zero ∧ ¬ MuxTooEarly (live [] []) .zero 0x40000000) :=
  ⟨witness_both_modes, ⟨⟨rfl, by decide⟩, rfl, by decide, 5, rfl⟩,
    ⟨no_race_fg rfl _, ⟨.zero, 15, by decide, by decide, by decide, by decide, .inl rfl⟩,
      ⟨.zero, 16, by decide, by decide, by decide, by decide, .inl rfl⟩⟩,
    no_race_fg rfl _, no_mux_live _ _ _ _⟩

theorem witness_UartRegisterReads : BothModes := witness_both_modes

theorem witness_StatusReads : BothModes := witness_both_modes

theorem witness_DataRegister :
    BothModes ∧ ({ base with uart.at0.rxfifo := [0x41, 0x42] }.uart.get .zero).rxfifo = [0x41, 0x42] ∧
    (base.uart.get .one).rxfifo = [] ∧
    ({ base with uart.at0.txfifo := List.replicate 31 0 }.uart.get .zero).txfifo.length < base.params.txFifoDepth ∧
    base.params.txFifoDepth ≤ ({ base with uart.at1.txfifo := List.replicate 32 0 }.uart.get .one).txfifo.length :=
  ⟨witness_both_modes, rfl, rfl, by decide, by decide⟩

theorem witness_UartRegisterWrites :
    BothModes ∧ 0x20#32 &&& 0xFFFF1FE0#32 ≠ 0 ∧ 0x10000#32 &&& 0xFFFF1FE0#32 ≠ 0 ∧
    (0x8003#32 &&& 0xFFFF1FE0#32 = 0 ∧ (0x8003#32).getLsbD 15 = true) ∧
    (0x601F#32 &&& 0xFFFF1FE0#32 = 0 ∧ (0x601F#32).getLsbD 15 = false) :=
  ⟨witness_both_modes, by decide, by decide, by decide, by decide⟩

theorem witness_UnmodelledRegistersRefuse : BothModes := witness_both_modes

theorem witness_BusAccesses :
    BothModes ∧ inWindow 0x80000068 = false ∧
    (inWindow 0x80000067 = true ∧ (0x80000067#32).toNat % 4 ≠ 0) ∧
    (inWindow 0x80000064 = true ∧ (0x80000064#32).toNat % 4 = 0) ∧
    regAt 0x80000064 = some (.dirReset .one) :=
  ⟨witness_both_modes, by decide, by decide, by decide, by decide⟩

theorem witness_UnprivilegedOperationsFault :
    (unpriv.atStart = true ∧ unpriv.mode = .unprivileged ∧ (unpriv.uart.get .zero).ustate = .uninitialized ∧
      baudReg unpriv.params.coreClockHz 9600 = .ok 0x003F270F ∧ (10#32).toNat < unpriv.itc.length) ∧
    ({ live [] [] with params.fgMode := .unprivileged }.mode = .unprivileged ∧
      ({ live [] [] with params.fgMode := .unprivileged }.uart.get .one).ustate = .initialized) := by decide

theorem witness_GpioPortOperations : BothModes ∧ 1 < (2#32).toNat := ⟨witness_both_modes, by decide⟩

theorem witness_GpioPinOperations : BothModes ∧ 63 < (64#32).toNat ∧ 1 < (2#32).toNat :=
  ⟨witness_both_modes, by decide, by decide⟩

theorem witness_GpioReads : BothModes ∧ 1 < (2#32).toNat ∧ 63 < (64#32).toNat :=
  ⟨witness_both_modes, by decide, by decide⟩

theorem witness_GpioSetPinFunction :
    ((live [] []).atStart = true ∧ 2 ≤ (live [] []).slice) ∧ Four.toNat .three = (63 : Fin 64).val / 16 ∧
    (¬ Race (live [] []) .zero ∧ ¬ MuxTooEarly (live [] []) .zero 0x10000000) ∧
    ((inCallback []).atStart = true ∧ (inCallback []).mode = .privileged ∧
      Race { inCallback [] with fselPending := some (.two, 5) } .two) ∧
    (¬ Race base .zero ∧ MuxTooEarly base .zero
      ((base.gpio.funcSel.get .zero &&& ~~~(3#32 <<< (2 * 14))) ||| ((1#2).setWidth 32 <<< (2 * 14)))) ∧
    63 < (64#32).toNat ∧ 3 < (4#32).toNat :=
  ⟨by decide, rfl, ⟨no_race_fg rfl _, no_mux_live _ _ _ _⟩, ⟨rfl, rfl, by decide, 5, rfl⟩,
    ⟨no_race_fg rfl _, .zero, 14, by decide, by decide, by decide, by decide, .inl rfl⟩, by decide, by decide⟩

/-- The first register that a mask of both halves of port 1 touches is raced; the second is. -/
theorem witness_GpioSetPortFunction_race :
    let s := fun k : Four => { inCallback [] with fselPending := some (k, 5) }
    (s .two).atStart = true ∧ (s .two).mode = .privileged ∧
    IsNewFunctions (s .two) .two 0 0x00010001 0 ∧ IsNewFunctions (s .two) .three 0 0x00010001 0 ∧
    Touches 0x00010001 .two ∧ Touches 0x00010001 .three ∧ Race (s .two) .two ∧
    (¬ Race (s .three) .two ∧ ¬ MuxTooEarly (s .three) .two 0 ∧ Race (s .three) .three) :=
  ⟨rfl, rfl, by unfold IsNewFunctions; decide, by unfold IsNewFunctions; decide, ⟨0, by decide, by decide⟩,
    ⟨0, by decide, by decide⟩, ⟨by decide, 5, rfl⟩, fun ⟨_, _, h⟩ => (by cases h), fun ⟨_, _, _, _, _, h, _⟩ => by simp at h, by decide, 5, rfl⟩

/-- UART 0's pins 14 and 15 in the first register of port 0, and its pin 16 in the second, while it is disabled; and the
same pins while it is enabled. -/
theorem witness_GpioSetPortFunction :
    ((live [] []).atStart = true ∧ 4 ≤ (live [] []).slice ∧ (0xC000 : Word) ≠ 0 ∧
      (live [] []).mode = .privileged ∧ ∀ k, ¬ Race (live [] []) k) ∧
    (∀ (i : Uid), ∀ p ∈ ((live [] []).params.uartPins.get i).toList,
      p.val / 32 = Two.toNat .zero → (0xC000#32).getLsbD (p.val % 32) = true → (1#2) = 1 →
        pinFunc (live [] []).gpio p.val ≠ 1 →
        ((live [] []).uart.get i).ucon.txe = true ∧ ((live [] []).uart.get i).ucon.rxe = true) ∧
    (Four.toNat .zero = 2 * Two.toNat .zero ∧ Four.toNat .one = 2 * Two.toNat .zero + 1) ∧
    (IsNewFunctions base .zero 1 0xC000 0x50000000 ∧ Touches 0xC000 .zero ∧ ¬ Race base .zero ∧
      MuxTooEarly base .zero 0x50000000) ∧
    (IsNewFunctions base .one 1 0x10000 1 ∧ Touches 0x10000 .one ∧ ¬ Touches 0x10000 .zero ∧ ¬ Race base .one ∧
      MuxTooEarly base .one 1) ∧
    1 < (2#32).toNat ∧ 3 < (4#32).toNat :=
  ⟨⟨rfl, by decide, by decide, rfl, fun k => no_race_fg rfl k⟩,
    fun i _ _ _ _ _ _ => by cases i <;> exact ⟨rfl, rfl⟩, ⟨rfl, rfl⟩,
    ⟨by unfold IsNewFunctions; decide, ⟨14, by decide, by decide⟩, no_race_fg rfl _,
      .zero, 14, by decide, by decide, by decide, by decide, .inl rfl⟩,
    ⟨by unfold IsNewFunctions; decide, ⟨0, by decide, by decide⟩, by unfold Touches; decide, no_race_fg rfl _,
      .zero, 16, by decide, by decide, by decide, by decide, .inl rfl⟩, by decide, by decide⟩

theorem witness_InterruptMasks : BothModes := witness_both_modes

theorem witness_ExceptionHandlers : BothModes ∧ (5#32).toNat = 5 ∧ 7 < (8#32).toNat :=
  ⟨witness_both_modes, by decide, by decide⟩

theorem witness_MaskedForegroundIsNotInterrupted :
    (placed [0x10]).ctx = .fg ∧ (placed [0x10]).cpu.i = true ∧ ∃ t, step (placed [0x10]) = .next t :=
  ⟨rfl, rfl, _, rfl⟩

theorem violation_exposed : Violation exposed 1 :=
  ⟨rfl, by decide, ⟨rfl, rfl, ⟨true, .normal, some .zero⟩, rfl, rfl, rfl, rfl⟩, fun g => by
    have := g.2.1 rfl
    cases this⟩

/-- The first bad handle, the last good one, a violation and none. -/
theorem witness_BufferInit :
    Ready base ∧ base.cb.length ≤ (8#32).toNat ∧ (7#32).toNat < base.cb.length ∧ (1 : Word) ≠ 0 ∧
    (Ready exposed ∧ Violation exposed (1#32).toNat) ∧ ¬ Violation base (0#32).toNat :=
  ⟨⟨rfl, by decide⟩, by decide, by decide, by decide, ⟨⟨rfl, by decide⟩, violation_exposed⟩,
    no_violation_masked rfl _⟩

theorem witness_BufferQueries :
    (Ready base ∧ base.cb.length ≤ (8#32).toNat) ∧
    (base.cb[(7#32).toNat]? = some Cb.reset ∧ Cb.reset.valid = false) ∧
    (Ready exposed ∧ exposed.cb[(1#32).toNat]? = some (buf 4 []) ∧ (buf 4 []).valid = true ∧
      Violation exposed (1#32).toNat) ∧
    (Ready (live [] [7]) ∧ (live [] [7]).cb[(1#32).toNat]? = some (buf 4 [7]) ∧
      ¬ Violation (live [] [7]) (1#32).toNat) :=
  ⟨⟨⟨rfl, by decide⟩, by decide⟩, ⟨rfl, rfl⟩, ⟨⟨rfl, by decide⟩, rfl, rfl, violation_exposed⟩,
    ⟨rfl, by decide⟩, rfl, no_violation_masked rfl _⟩

theorem witness_BufferWrite :
    (Ready (live [] [7]) ∧ (live [] [7]).cb[(1#32).toNat]? = some (buf 4 [7]) ∧ (buf 4 [7]).valid = true ∧
      ¬ Violation (live [] [7]) (1#32).toNat ∧ (buf 4 [7]).count ≠ (buf 4 [7]).cap) ∧
    ((live [] [1, 2, 3, 4]).cb[(1#32).toNat]? = some (buf 4 [1, 2, 3, 4]) ∧
      (buf 4 [1, 2, 3, 4]).count = (buf 4 [1, 2, 3, 4]).cap) ∧
    (base.cb[(7#32).toNat]? = some Cb.reset ∧ Cb.reset.valid = false) ∧ Violation exposed (1#32).toNat :=
  ⟨⟨⟨rfl, by decide⟩, rfl, rfl, no_violation_masked rfl _, by decide⟩, ⟨rfl, rfl⟩, ⟨rfl, rfl⟩, violation_exposed⟩

theorem witness_BufferRead :
    (Ready (live [] [7]) ∧ (live [] [7]).cb[(1#32).toNat]? = some (buf 4 [7]) ∧ (buf 4 [7]).valid = true ∧
      ¬ Violation (live [] [7]) (1#32).toNat ∧ (buf 4 [7]).count ≠ 0 ∧ Cb.Inv (buf 4 [7])) ∧
    ((live [] [7]).cb[(0#32).toNat]? = some (buf 4 []) ∧ (buf 4 []).count = 0) ∧
    (base.cb[(7#32).toNat]? = some Cb.reset ∧ Cb.reset.valid = false) ∧ Violation exposed (1#32).toNat :=
  ⟨⟨⟨rfl, by decide⟩, rfl, rfl, no_violation_masked rfl _, by decide, inv_buf_1 7⟩, ⟨rfl, rfl⟩, ⟨rfl, rfl⟩,
    violation_exposed⟩

theorem witness_BufferIsQueue :
    Ready (live [] [7]) ∧ Usable (live [] [7]) (1#32).toNat (buf 4 [7]) ∧ (buf 4 [7]).bytes.length < (buf 4 [7]).cap ∧
    (buf 4 [7]).bytes = [7] :=
  ⟨⟨rfl, by decide⟩, ⟨rfl, rfl, inv_buf_1 7, no_violation_masked rfl _⟩, by decide, by decide⟩

/-- As many words as the buffer has slots. -/
theorem witness_BufferReturnsBytesInOrder :
    Ready (live [] []) ∧ Usable (live [] []) (4#32).toNat (buf 3 []) ∧ (buf 3 []).count = 0 ∧
    [0x10A#32, 0x0B, 0x0C].length ≤ (buf 3 []).cap :=
  ⟨⟨rfl, by decide⟩, ⟨rfl, rfl, inv_buf_3, no_violation_masked rfl _⟩, rfl, by decide⟩

theorem witness_BaudRegisterValue :
    1 ≤ 16 / 16 ∧ 2 ^ 32 ≤ (429540#32).toNat * 9999 ∧
    ((7#32).toNat * 9999 < 2 ^ 32 ∧ 0xFFFF < (7#32).toNat * 9999 / (16 / 16)) ∧
    ((429539#32).toNat * 9999 < 2 ^ 32 ∧ (6#32).toNat * 9999 / (16 / 16) ≤ 0xFFFF) := by decide

theorem witness_UartErrorReturns : Ready base ∧ 1 < (2#32).toNat := ⟨⟨rfl, by decide⟩, by decide⟩

theorem witness_UartUseBeforeInit :
    (base.atStart = true ∧ (base.uart.get .one).ustate = .uninitialized ∧ (1 : Word) ≠ 0 ∧
      baudReg base.params.coreClockHz 429540 = .fault .baudOverflow) ∧
    ((live [] []).atStart = true ∧ ((live [] []).uart.get .zero).ustate = .initialized) := by decide

/-- From reset, with exactly the steps that `uart.init` takes. -/
theorem witness_UartInitialisation :
    { base with slice := 26 }.atStart = true ∧ { base with slice := 26 }.mode = .privileged ∧
    launchOk { base with slice := 26 } = true ∧ (∀ k, ¬ Race { base with slice := 26 } k) ∧
    (base.uart.get .one).ustate = .uninitialized ∧ (0x00400100 : Word) ≠ 0 ∧
    baudReg base.params.coreClockHz 115200 = .ok 0x02FF270F ∧ (base.params.uartPins.get .one).toList.Nodup ∧
    base.itc[base.params.uartIrqSrc.get .one]? = some ItcEntry.reset :=
  ⟨rfl, rfl, by decide, fun k => no_race_fg rfl k, rfl, by decide, by decide, by decide, rfl⟩

theorem driver_live {rx tx : List Byte} {s : State} (hu : s.uart = (live rx tx).uart)
    (hc : s.cb = (live rx tx).cb) (hm : s.mode = .privileged) (hp : s.params = (live rx tx).params)
    (hr : Cb.Inv (buf 4 rx)) (ht : Cb.Inv (buf 4 tx)) : Driver s .zero (buf 4 rx) (buf 4 tx) where
  initialized := by rw [hu]; rfl
  mode := hm
  noLoopback := by rw [hu]; rfl
  txDepth := by rw [hp]; exact (by decide : 32 ≤ 63)
  rxLevel := by rw [hu]; exact (by decide : 0 ≤ 63)
  rxAt := by rw [hc]; rfl
  txAt := by rw [hc]; rfl
  rxValid := rfl
  txValid := rfl
  rxInv := hr
  txInv := ht

/-- UART 0 waiting in a blocking send of 0x42, its transmit buffer holding `tx` and its FIFO `n` bytes. -/
def sendWait (tx : List Byte) (n : Nat) : State :=
  { live [] tx with
    uart.at0.txfifo := List.replicate n 0
    cur.todo := sendLeft .zero 0x42 false tx.length }

/-- One byte queued, and exactly the steps it takes; the FIFO with one slot for it, and with none for its own. -/
theorem witness_UartSendByteFlushes :
    let s := fun n => { live [] [0x41] with slice := 14, uart.at0.txfifo := List.replicate n 0 }
    (∀ n, (s n).atStart = true ∧ Driver (s n) .zero (buf 4 []) (buf 4 [0x41])) ∧
    4 * (buf 4 [0x41]).count + 10 ≤ (s 30).slice ∧
    (buf 4 [0x41]).count < (s 30).params.txFifoDepth - ((s 30).uart.get .zero).txfifo.length ∧
    (s 31).params.txFifoDepth - ((s 31).uart.get .zero).txfifo.length ≤ (buf 4 [0x41]).count :=
  ⟨fun _ => ⟨rfl, rfl, rfl, rfl, (by decide : 32 ≤ 63), (by decide : 0 ≤ 63), rfl, rfl, rfl, rfl, inv_buf_0, inv_buf_1 _⟩, by decide, by decide,
    by decide⟩

/-- The wait: no room; room for all; and room for one byte of one queued, but not for its own. -/
theorem witness_UartSendByteFlushes_wait :
    ((sendWait [0x41] 32).cur.todo = sendLeft .zero 0x42 false 1 ++ [] ∧ (sendWait [0x41] 32).mode = .privileged ∧
      (sendWait [0x41] 32).params.txFifoDepth - ((sendWait [0x41] 32).uart.get .zero).txfifo.length = 0) ∧
    (∀ n, (sendWait [0x41] n).cur.todo = sendLeft .zero 0x42 false (buf 4 [0x41]).count ++ [] ∧
      Driver (sendWait [0x41] n) .zero (buf 4 []) (buf 4 [0x41]) ∧
      ((sendWait [0x41] n).uart.get .zero).ucon.mtxr = true ∧ 4 * (buf 4 [0x41]).count + 10 ≤ (sendWait [0x41] n).slice) ∧
    (buf 4 [0x41]).count < (sendWait [0x41] 30).params.txFifoDepth - ((sendWait [0x41] 30).uart.get .zero).txfifo.length ∧
    (sendWait [0x41] 31).params.txFifoDepth - ((sendWait [0x41] 31).uart.get .zero).txfifo.length = 1 :=
  ⟨⟨rfl, rfl, by decide⟩,
    fun _ => ⟨rfl, ⟨rfl, rfl, rfl, (by decide : 32 ≤ 63), (by decide : 0 ≤ 63), rfl, rfl, rfl, rfl, inv_buf_0, inv_buf_1 _⟩,
      rfl, (by decide : 14 ≤ (live [] []).slice)⟩,
    by decide, by decide⟩

/-- A buffered byte; none; and the wait, with a byte and with none. -/
theorem witness_UartReceiveByteTakesOldest :
    ((live [7] []).atStart = true ∧ Driver (live [7] []) .zero (buf 4 [7]) (buf 4 []) ∧ 10 ≤ (live [7] []).slice ∧
      (buf 4 [7]).bytes = [7]) ∧
    (Driver (live [] []) .zero (buf 4 []) (buf 4 []) ∧ (buf 4 []).bytes = [] ∧
      ((live [] []).uart.get .zero).rxfifo = []) ∧
    (let s := { live [] [] with cur.todo := [.waitRx .zero, .recvByteData .zero false], uart.at0.rxfifo := [9] };
      s.mode = .privileged ∧ (s.uart.get .zero).ucon.tst = false ∧ (s.uart.get .zero).rxfifo.length ≤ 63 ∧
      4 ≤ s.slice ∧ (s.uart.get .zero).rxfifo = [9]) :=
  ⟨⟨rfl, driver_live rfl rfl rfl rfl (inv_buf_1 _) inv_buf_0, by decide, by decide⟩,
    ⟨driver_live rfl rfl rfl rfl inv_buf_0 inv_buf_0, by decide, rfl⟩, rfl, rfl, by decide, by decide, rfl⟩

/-- The last two bytes of RAM: two bytes asked for; a third, which lies outside; and the bytes before them, which hold no
value. -/
theorem witness_UartSendEnqueues :
    let s := { live [] [7] with mem := [(0x00417FFE, 0x41), (0x00417FFF, 0x42)], slice := 14 }
    (s.atStart = true ∧ Driver s .zero (buf 4 []) (buf 4 [7]) ∧ (0x00417FFE : Word) ≠ 0) ∧
    (∀ j b, [(0x41 : Byte), 0x42][j]? = some b → inRam (0x00417FFE + BitVec.ofNat 32 j).toNat = true ∧
      s.mem.get (0x00417FFE + BitVec.ofNat 32 j).toNat = some b) ∧
    3 * [(0x41 : Byte), 0x42].length + 8 ≤ s.slice ∧
    [(0x41 : Byte), 0x42].length = min (2#32).toNat ((buf 4 [7]).cap - (buf 4 [7]).count) ∧
    ([(0x41 : Byte), 0x42].length < min (3#32).toNat ((buf 4 [7]).cap - (buf 4 [7]).count) ∧
      inRam (0x00417FFE + BitVec.ofNat 32 2).toNat = false) ∧
    (([] : List Byte).length < min (1#32).toNat ((buf 4 [7]).cap - (buf 4 [7]).count) ∧
      inRam (0x00417FFD + BitVec.ofNat 32 0).toNat = true ∧
      s.mem.get (0x00417FFD + BitVec.ofNat 32 0).toNat = none) := by
  refine ⟨⟨rfl, driver_live rfl rfl rfl rfl inv_buf_0 (inv_buf_1 _), by decide⟩, fun j b hj => ?_, by decide, by decide,
    by decide, by decide⟩
  match j, hj with
  | 0, hj => cases hj; decide
  | 1, hj => cases hj; decide
  | j + 2, hj => simp at hj

/-- One buffered byte, into the last byte of RAM, and into the address after it. -/
theorem witness_UartReceiveDequeues :
    let s := { live [7] [] with slice := 11 }
    (s.atStart = true ∧ Driver s .zero (buf 4 [7]) (buf 4 []) ∧ (0x00417FFF : Word) ≠ 0) ∧
    (1 = min (5#32).toNat (buf 4 [7]).count ∧
      (∀ j, j < 1 → inRam (0x00417FFF + BitVec.ofNat 32 j).toNat = true) ∧ 3 * 1 + 8 ≤ s.slice) ∧
    (0 < min (5#32).toNat (buf 4 [7]).count ∧ inRam (0x00418000 + BitVec.ofNat 32 0).toNat = false) :=
  ⟨⟨rfl, driver_live rfl rfl rfl rfl (inv_buf_1 _) inv_buf_0, by decide⟩, by decide, by decide⟩

theorem witness_UartCallbackHandles :
    BothModes ∧ 7 ∈ { base with params.callbacks := [(7, [])] }.params.callbacks.map Prod.fst ∧
    ((7 : Word) ≠ 0 ∧ 7 ∉ base.params.callbacks.map Prod.fst) ∧ 1 < (2#32).toNat :=
  ⟨witness_both_modes, by decide, by decide, by decide⟩

/-- The first bad source and the last good one; the first bad level and handler. -/
theorem witness_ControllerCalls :
    BothModes ∧ base.itc.length ≤ (11#32).toNat ∧ (10#32).toNat < base.itc.length ∧ 1 < (2#32).toNat ∧
    2 < (3#32).toNat ∧ base.itc[(10#32).toNat]? = some ItcEntry.reset :=
  ⟨witness_both_modes, by decide, by decide, by decide, by decide, rfl⟩

/-- A source that is deliverable. -/
theorem witness_DeliveryOfASource : delivers exposed 1 = some .zero := by decide

theorem witness_InterruptEntry :
    (Running { exposed with sched := [.core 1] } ∧ exposed.ctx = .fg ∧ exposed.cpu.i = false ∧
      delivers exposed 1 = some .zero) ∧
    (Running { live [] [] with sched := [.core 1] } ∧ (live [] []).cpu.i = true) ∧
    (Running { inIsr exposed [] with cpu.i := false, sched := [.core 1] } ∧
      delivers { inIsr exposed [] with cpu.i := false } 1 = some .zero) ∧
    (Running { inIsr exposed [] with sched := [.core 1] } ∧ (inIsr exposed []).cpu.i = true) :=
  ⟨⟨⟨rfl, rfl, rfl⟩, rfl, rfl, by decide⟩, ⟨⟨rfl, rfl, rfl⟩, rfl⟩, ⟨⟨rfl, rfl, rfl⟩, by decide⟩,
    ⟨rfl, rfl, rfl⟩, rfl⟩

theorem witness_InterruptReturn :
    let s := { inIsr (live [] []) [.isrReturn] with sched := [.run 0] }
    Running s ∧ s.ctx = .isr 1 ∧ s.saved = some ⟨⟨6, none, none, []⟩, false, true⟩ ∧ s.cur.todo = [.isrReturn] :=
  ⟨⟨rfl, rfl, rfl⟩, rfl, rfl, rfl⟩

theorem witness_CallbackInvocation :
    (let s := { inIsr (live [] []) [.invoke .zero .rx 3, .isrRxEnd .zero 0] with sched := [.run 0] };
      Running s ∧ s.ctx = .isr 1 ∧ callbackOf [.isrRxEnd .zero 0] = none) ∧
    (Running (inCallback []) ∧ (inCallback []).cur.todo = [.callback 3, .isrRxEnd .zero 0] ∧
      (inCallback []).params.callbacks.find? (fun c => c.1 == 3) = some (3, []) ∧
      (inCallback []).cur.pc = ([] : List Word).length ∧
      ∃ t, burst { inCallback [] with
        sched := [], slice := 5, cur := { (inCallback []).cur with todo := [.isrRxEnd .zero 0] } } = .next t) :=
  ⟨⟨⟨rfl, rfl, rfl⟩, rfl, rfl⟩, ⟨rfl, rfl, rfl⟩, rfl, rfl, rfl, _, rfl⟩

theorem witness_IsrServesBothDirections :
    let s := { inIsr (live [7] [8]) [.isrStatus .zero] with sched := [.run 24] }
    Running s ∧ s.ctx = .isr 1 ∧ s.cur.todo = [.isrStatus .zero] ∧ Driver s .zero (buf 4 [7]) (buf 4 [8]) ∧
    (s.uart.get .zero).rxCb = 0 ∧ (s.uart.get .zero).txCb = 0 ∧ 4 * 0 + 4 * 1 + 20 ≤ 24 :=
  ⟨⟨rfl, rfl, rfl⟩, rfl, rfl, driver_live rfl rfl rfl rfl (inv_buf_1 _) (inv_buf_1 _), rfl, rfl, by decide⟩

/-- The hypotheses of the invariants: a step from a state that meets them. -/
theorem witness_invariants :
    BuffersInv (placed [0x10]) ∧ MemInv (placed [0x10]) ∧ FifoInv (placed [0x10]) ∧ UartFlagsInv (placed [0x10]) ∧
    ContextInv (placed [0x10]) ∧ PriorityInv (placed [0x10]) ∧ ∃ t, step (placed [0x10]) = .next t := by
  refine ⟨fun b hb => ?_, ⟨rfl, fun c hc => by cases hc⟩, fun i => by cases i <;> decide,
    fun i => by cases i <;> decide, ⟨fun _ => rfl, fun _ => rfl⟩, fun e he => ?_, _, rfl⟩
  · obtain rfl : b = Cb.reset := List.eq_of_mem_replicate hb
    exact ⟨rfl, fun h => by cases h⟩
  · obtain rfl : e = ItcEntry.reset := List.eq_of_mem_replicate he
    rfl

theorem witness_BuffersKeepTheirInvariant : BuffersInv (placed [0x10]) ∧ ∃ t, step (placed [0x10]) = .next t :=
  ⟨witness_invariants.1, _, rfl⟩

theorem witness_MemoryStaysCanonical : MemInv (placed [0x10]) ∧ ∃ t, step (placed [0x10]) = .next t :=
  ⟨witness_invariants.2.1, _, rfl⟩

theorem witness_MachineInvariants :
    FifoInv (placed [0x10]) ∧ UartFlagsInv (placed [0x10]) ∧ ContextInv (placed [0x10]) ∧ PriorityInv (placed [0x10]) ∧
    ∃ t, step (placed [0x10]) = .next t :=
  witness_invariants.2.2

/-- A stopped machine with UART 0 initialised and its source enabled, whose line still moves. -/
theorem witness_NothingIsTakenBack :
    let s := { live [] [] with faults := [.cbWriteFull], sched := [.rxl .zero 5] }
    (∃ t, step s = .next t) ∧ Fault.cbWriteFull ∈ s.faults ∧ (s.uart.get .zero).ustate = .initialized ∧
    s.itc[1]? = some ⟨true, .normal, some .zero⟩ :=
  ⟨⟨_, rfl⟩, by decide, rfl, rfl⟩

/-- A received byte; a read and a write of `UDATA` by a command, by a driver's step and by the ISR, one step each. -/
theorem witness_HardwareFifosKeepOrder :
    (∃ t, step { live [] [] with sched := [.rxl .zero 5] } = .next t) ∧
    (let s := { placed [0x50, 0x80005008] with uart := ⟨{ liveUart with rxfifo := [9] }, liveUart⟩, sched := [.run 0] };
      AtomicTurn s ∧ ∃ t, step s = .next t ∧ ReadsUdata s t .zero 9) ∧
    (let s := { placed [0x51, 0x80005008, 0x142] with uart := ⟨liveUart, liveUart⟩, sched := [.run 0] };
      AtomicTurn s ∧ ∃ t, step s = .next t ∧ WritesUdata s .zero 0x142) ∧
    (let s := { inIsr (live [] []) [.isrRxData .zero 0x40] with uart.at0.rxfifo := [9], sched := [.run 0] };
      AtomicTurn s ∧ ∃ t, step s = .next t ∧ ReadsUdata s t .zero 9) :=
  ⟨⟨_, rfl⟩,
    ⟨⟨_, _, rfl, fun n h => by cases h; rfl⟩, _, rfl, .inl ⟨⟨rfl, rfl⟩, rfl⟩⟩,
    ⟨⟨_, _, rfl, fun n h => by cases h; rfl⟩, _, rfl, .inl ⟨rfl, rfl⟩⟩,
    ⟨_, _, rfl, fun n h => by cases h; rfl⟩, _, rfl, .inr (.inr ⟨0x40, [], .inl rfl, rfl⟩)⟩

theorem witness_OnlyReceiveWritesMemory :
    base.atStart = true ∧ (∀ id b c, Instr.csDisableIrq ≠ .uartReceive id b c) ∧
    ∃ t, exec .csDisableIrq base = .next t :=
  ⟨rfl, fun _ _ _ h => (by cases h), _, rfl⟩

theorem witness_UnprivilegedCodeIsConfined :
    unpriv.atStart = true ∧ unpriv.mode = .unprivileged ∧ ∃ t, exec .csDisableIrq unpriv = .next t :=
  ⟨rfl, rfl, _, rfl⟩

end Sys2Proof.Tests
end

section
/-! PROOF. The launch state (10 R50 to R58): the laws of `State.launch` for its tables, and the launch statement. -/

namespace Sys2Proof.Machine

section LaunchLaws

variable (p : Params) (rp : ResetParams) (numCb numSrc : Nat) (ram : Mem)

@[simp] theorem State.launch_uart_get (i : Uid) :
    (State.launch p rp numCb numSrc ram).uart.get i = Uart.reset rp.ubrcnt := by
  cases i <;> rfl

@[simp] theorem State.launch_cb_length : (State.launch p rp numCb numSrc ram).cb.length = numCb :=
  List.length_replicate

@[simp] theorem State.launch_itc_length : (State.launch p rp numCb numSrc ram).itc.length = numSrc :=
  List.length_replicate

@[simp] theorem State.launch_mode : (State.launch p rp numCb numSrc ram).mode = p.fgMode := rfl

variable {p rp numCb numSrc ram}

theorem State.eq_reset_of_mem_launch_cb {b : Cb} (hb : b ∈ (State.launch p rp numCb numSrc ram).cb) : b = Cb.reset :=
  List.eq_of_mem_replicate hb

theorem State.eq_reset_of_mem_launch_itc {e : ItcEntry} (he : e ∈ (State.launch p rp numCb numSrc ram).itc) :
    e = ItcEntry.reset :=
  List.eq_of_mem_replicate he

end LaunchLaws

/-- Settles O6: the two UARTs, the buffers and the sources are copies of their reset records; every other field is
given by `State.launch` as it stands. -/
theorem launchState : Obligations.LaunchState := by
  intro p rp numCb numSrc ram s
  have huart : ∀ i : Uid, s.uart.get i = Uart.reset rp.ubrcnt := State.launch_uart_get p rp numCb numSrc ram
  have hbuffers : s.cb.length = numCb ∧ ∀ b ∈ s.cb, b.valid = false := by
    refine ⟨State.launch_cb_length p rp numCb numSrc ram, fun b hb => ?_⟩
    rw [State.eq_reset_of_mem_launch_cb hb, Cb.reset]
  have hsources : s.itc.length = numSrc ∧ ∀ e ∈ s.itc, e.enabled = false ∧ e.prio = .normal ∧ e.handler = none := by
    refine ⟨State.launch_itc_length p rp numCb numSrc ram, fun e he => ?_⟩
    rw [State.eq_reset_of_mem_launch_itc he]
    exact ⟨rfl, rfl, rfl⟩
  refine ⟨rfl, fun i => ?ucon, fun i => ?hardware, fun i => ?driver, hbuffers,
    ⟨rfl, rfl, rfl, State.launch_mode p rp numCb numSrc ram⟩, hsources, ⟨rfl, rfl, rfl, rfl, rfl, rfl⟩,
    ⟨rfl, rfl, rfl, rfl⟩, rfl⟩
  case ucon => rw [huart i]; rfl
  case hardware => rw [huart i]; exact ⟨rfl, rfl, rfl, rfl, rfl, rfl, rfl⟩
  case driver => rw [huart i]; exact ⟨rfl, rfl, rfl⟩

end Sys2Proof.Machine
end

section
/-! PROOF. Decoding (30 R100 to R104): the opcode map read as rows and as words, one equation of `decode` for each
outcome of R101, and the refusals statement. -/

namespace Sys2Proof

/-- 30 R106, R107: a register's read is `bus.read` at the register's address. -/
@[simp] theorem Reg.encode_readForm (r : Reg) : encode r.readForm = [0x50, r.addr] := by
  cases r with
  | funcSel n => cases n <;> rfl
  | _ n => cases n <;> rfl

/-- 30 R106, R107: a register's write is `bus.write` at the register's address. -/
@[simp] theorem Reg.encode_writeForm (r : Reg) (v : Word) : encode (r.writeForm v) = [0x51, r.addr, v] := by
  cases r with
  | funcSel n => cases n <;> rfl
  | _ n => cases n <;> rfl

@[simp] theorem encode_busReadCommand (a : Word) : encode (busReadCommand a) = [0x50, a] := by
  unfold busReadCommand
  split
  case h_1 r hr => rw [Reg.encode_readForm, Machine.addr_of_regAt hr]
  case h_2 => rfl

@[simp] theorem encode_busWriteCommand (a v : Word) : encode (busWriteCommand a v) = [0x51, a, v] := by
  unfold busWriteCommand
  split
  case h_1 r hr => rw [Reg.encode_writeForm, Machine.addr_of_regAt hr]
  case h_2 => rfl

/-- 30 R102: what the map gives for an opcode is one of its rows, and the words of the command it makes are the opcode
and that row's number of argument words. -/
theorem commandOf_eq_some {op n : Nat} {a b c : Word} {i : Instr} (h : commandOf op a b c = some (n, i)) :
    (op, n) ∈ Machine.argCounts ∧ encode i = BitVec.ofNat 32 op :: [a, b, c].take n := by
  unfold commandOf at h
  split at h
  case h_34 => cases h; exact ⟨by decide, encode_busReadCommand a⟩
  case h_35 => cases h; exact ⟨by decide, encode_busWriteCommand a b⟩
  all_goals cases h <;> exact ⟨by decide, rfl⟩

/-- 30 R102: the map gives a command for each of its rows, with the row's number of argument words. -/
theorem commandOf_of_mem_argCounts {op n : Nat} (h : (op, n) ∈ Machine.argCounts) (a b c : Word) :
    ∃ i, commandOf op a b c = some (n, i) := by
  have hrows : ∀ row ∈ Machine.argCounts, ∃ i, commandOf row.1 a b c = some (row.2, i) := by
    simp [Machine.argCounts, commandOf]
  exact hrows _ h

/-- 30 R102: no command takes more than three argument words. -/
theorem le_three_of_mem_argCounts {op n : Nat} (h : (op, n) ∈ Machine.argCounts) : n ≤ 3 := by
  have hrows : ∀ row ∈ Machine.argCounts, row.2 ≤ 3 := by decide
  exact hrows _ h

/-- The decoder's three argument slots hold the words read, as far as they are there. -/
theorem take_argument_slots {ws : List Word} {n : Nat} (hn : n ≤ 3) (hlen : n ≤ ws.length) :
    [ws.getD 0 0, ws.getD 1 0, ws.getD 2 0].take n = ws.take n := by
  refine List.ext_getElem (by simp; omega) fun k hk _ => ?_
  have hk3 : k < 3 := by simp at hk; omega
  have hkl : k < ws.length := by simp at hk; omega
  interval_cases k <;> simp [hkl]

/-- 30 R101: the reserved bits 31..8 are clear exactly where the header is below 256. -/
theorem reservedBits_eq_zero_iff (h : Word) : h.extractLsb' 8 24 = 0 ↔ h.toNat / 256 = 0 := by
  have hlt := h.isLt
  have hval : (h.extractLsb' 8 24).toNat = h.toNat / 256 := by
    rw [BitVec.extractLsb'_toNat, Nat.shiftRight_eq_div_pow]
    omega
  rw [← hval, ← BitVec.toNat_inj]
  rfl

section Decode

variable {h : Word} {rest : List Word}

theorem decode_of_reservedBits (hres : h.extractLsb' 8 24 ≠ 0) : decode (h :: rest) = .error .reservedBits :=
  if_pos (mt (reservedBits_eq_zero_iff h).mpr hres)

theorem decode_of_commandOf_none (hres : h.extractLsb' 8 24 = 0)
    (hop : commandOf h.toNat (rest.getD 0 0) (rest.getD 1 0) (rest.getD 2 0) = none) :
    decode (h :: rest) = .error .illegalOp := by
  rw [decode, if_neg (not_not.mpr ((reservedBits_eq_zero_iff h).mp hres)), hop]

/-- 30 R101: an opcode of the map is refused or read by the number of words after it. -/
theorem decode_of_commandOf_some {n : Nat} {i : Instr} (hres : h.extractLsb' 8 24 = 0)
    (hop : commandOf h.toNat (rest.getD 0 0) (rest.getD 1 0) (rest.getD 2 0) = some (n, i)) :
    decode (h :: rest) = if rest.length < n then .error .truncatedCommand else .ok (i, rest.drop n) := by
  rw [decode, if_neg (not_not.mpr ((reservedBits_eq_zero_iff h).mp hres)), hop]

end Decode

namespace Machine

/-- Settles O3: `decode` looks the opcode up in the map once; the map's rows say which opcodes it answers, and the
words of the command it makes are the header and the argument words taken. -/
theorem decodeRefusals : Obligations.DecodeRefusals := by
  intro h rest
  refine ⟨decode_of_reservedBits, fun hres hmap => ?illegal, fun n hres hrow hlen => ?truncated,
    fun n hres hrow hlen => ?accepted⟩
  case illegal =>
    refine decode_of_commandOf_none hres (Option.eq_none_iff_forall_ne_some.mpr fun ⟨n, i⟩ hi => ?_)
    exact hmap n (commandOf_eq_some hi).1
  case truncated =>
    obtain ⟨i, hi⟩ := commandOf_of_mem_argCounts hrow (rest.getD 0 0) (rest.getD 1 0) (rest.getD 2 0)
    rw [decode_of_commandOf_some hres hi, if_pos hlen]
  case accepted =>
    obtain ⟨i, hi⟩ := commandOf_of_mem_argCounts hrow (rest.getD 0 0) (rest.getD 1 0) (rest.getD 2 0)
    refine ⟨i, ?_, ?_⟩
    · rw [decode_of_commandOf_some hres hi, if_neg hlen.not_gt]
    · rw [(commandOf_eq_some hi).2, BitVec.ofNat_toNat, BitVec.setWidth_eq,
        take_argument_slots (le_three_of_mem_argCounts hrow) hlen]

end Machine
end Sys2Proof
end

section
/-! PROOF. The GPIO registers (40 R140 to R166): one rule for a register row that reads, that writes and that faults,
the spec's terms for pins, races and multiplexing in those of the model, and the statements over them. -/

namespace Sys2Proof

theorem Four.toNat_inj {j k : Four} : j.toNat = k.toNat ↔ j = k := by
  cases j <;> cases k <;> decide

namespace Machine

/-! ### A register row does what its register's rule does -/

/-- A read's row is the read transaction on its register. -/
@[simp] theorem exec_readForm (r : Reg) (s : State) : exec r.readForm s = readRegister s r := by
  cases r with
  | funcSel k => cases k <;> rfl
  | _ n => cases n <;> rfl

/-- A write's row is the write transaction on its register. -/
@[simp] theorem exec_writeForm (r : Reg) (v : Word) (s : State) : exec (r.writeForm v) s = writeRegister s r v := by
  cases r with
  | funcSel k => cases k <;> rfl
  | _ n => cases n <;> rfl

/-- Completion after the operation's own step wrote `ret`. -/
theorem State.complete_setRet (s : State) (op : Byte) (n : Nat) (v : Word) :
    (s.setRet v).complete op n none none = s.returned op n v := by
  simp [State.complete, State.setRet, State.returned, Nat.add_assoc]

/-- Completion that itself writes `ret`. -/
theorem State.complete_ret (s : State) (op : Byte) (n : Nat) (v : Word) :
    s.complete op n (some v) none = s.returned op n v := by
  simp [State.complete, State.returned, Nat.add_assoc]

theorem readRegister_unprivileged {s : State} (r : Reg) (hb : s.atStart = true) (hm : s.mode = .unprivileged) :
    readRegister s r = .fault .unprivilegedMmio := by
  rw [readRegister, regRead_unprivileged r hm]
  exact operation_fault hb

theorem writeRegister_unprivileged {s : State} (r : Reg) (v : Word) (hb : s.atStart = true)
    (hm : s.mode = .unprivileged) : writeRegister s r v = .fault .unprivilegedMmio := by
  rw [writeRegister, regWrite_unprivileged r v hm]
  exact operation_fault hb

/-- A write whose rule faults is that fault. -/
theorem writeRegister_fault {s : State} {r : Reg} {v : Word} {k : Fault} (hb : s.atStart = true)
    (hm : s.mode = .privileged) (hr : writeRule s v r = .fault k) : writeRegister s r v = .fault k := by
  rw [writeRegister, regWrite_privileged r v hm, hr]
  exact operation_fault hb

/-- 40 R140: a read whose rule answers completes with the answer. -/
theorem readsAs_of_readRule {s t : State} {v : Word} (hs : Ready s) (r : Reg) (hr : readRule s r = .ok (v, t)) :
    ReadsAs r.readForm s v t := by
  rw [ReadsAs, exec_readForm]
  refine ⟨fun hm => ?_, readRegister_unprivileged r hs.boundary⟩
  rw [← State.complete_setRet]
  exact operation_completes hs.boundary hs.slice (by rw [regRead_privileged r hm, hr, Res.map_ok])

/-- 40 R141: a write whose rule succeeds completes with `ret = 0`. -/
theorem writesAs_of_writeRule {s t : State} {v : Word} (hs : Ready s) (r : Reg) (hr : writeRule s v r = .ok t) :
    WritesAs (r.writeForm v) s t := by
  rw [WritesAs, exec_writeForm]
  refine ⟨fun hm => ?_, writeRegister_unprivileged r v hs.boundary⟩
  rw [← State.complete_ret]
  exact oneStep_completes hs.boundary hs.slice (by rw [regWrite_privileged r v hm, hr])

/-! ### The stored registers and the write ports -/

/-- Settles O14: each row is the read of its register, whose rule answers the stored value, or a draw for a write
port. -/
theorem gpioRegisterReads : Obligations.GpioRegisterReads := by
  intro s hs
  have reads : ∀ (r : Reg) {v : Word} {t : State}, readRule s r = .ok (v, t) → ReadsAs r.readForm s v t :=
    fun r _ _ => readsAs_of_readRule hs r
  exact ⟨reads (.padDir .zero) rfl, reads (.padDir .one) rfl, reads (.puEn .zero) rfl, reads (.puEn .one) rfl,
    reads (.funcSel .zero) rfl, reads (.funcSel .one) rfl, reads (.funcSel .two) rfl, reads (.funcSel .three) rfl,
    reads (.dataSel .zero) rfl, reads (.dataSel .one) rfl, reads (.puSel .zero) rfl, reads (.puSel .one) rfl,
    reads (.hystEn .zero) rfl, reads (.hystEn .one) rfl, reads (.keep .zero) rfl, reads (.keep .one) rfl,
    reads (.dataSet .zero) rfl, reads (.dataSet .one) rfl, reads (.dataReset .zero) rfl, reads (.dataReset .one) rfl,
    reads (.dirSet .zero) rfl, reads (.dirSet .one) rfl, reads (.dirReset .zero) rfl, reads (.dirReset .one) rfl⟩

/-- Settles O15: each row is the write of its register, whose rule stores the value, or sets or clears its bits. -/
theorem gpioRegisterWrites : Obligations.GpioRegisterWrites := by
  intro s v hs
  have writes : ∀ (r : Reg) {t : State}, writeRule s v r = .ok t → WritesAs (r.writeForm v) s t :=
    fun r _ => writesAs_of_writeRule hs r
  exact ⟨writes (.padDir .zero) rfl, writes (.padDir .one) rfl, writes (.data .zero) rfl, writes (.data .one) rfl,
    writes (.puEn .zero) rfl, writes (.puEn .one) rfl, writes (.dataSel .zero) rfl, writes (.dataSel .one) rfl,
    writes (.puSel .zero) rfl, writes (.puSel .one) rfl, writes (.hystEn .zero) rfl, writes (.hystEn .one) rfl,
    writes (.keep .zero) rfl, writes (.keep .one) rfl, writes (.dataSet .zero) rfl, writes (.dataSet .one) rfl,
    writes (.dataReset .zero) rfl, writes (.dataReset .one) rfl, writes (.dirSet .zero) rfl, writes (.dirSet .one) rfl,
    writes (.dirReset .zero) rfl, writes (.dirReset .one) rfl⟩

/-! ### The data registers -/

theorem pinAt_val (n : Port) {b : Nat} (hb : b < 32) : (pinAt n b).val = 32 * n.toNat + b := by
  have hn : n.toNat ≤ 1 := by cases n <;> decide
  exact Nat.mod_eq_of_lt (by omega)

/-- Bit `b` of port `n` lies in port `n`. -/
theorem port_pinAt (n : Port) {b : Nat} (hb : b < 32) : Pin.port (pinAt n b) = n := by
  rw [Pin.port, pinAt_val n hb]
  cases n with
  | zero => exact if_pos (by simpa [Two.toNat] using hb)
  | one => exact if_neg (by simp [Two.toNat])

theorem bit_pinAt (n : Port) {b : Nat} (hb : b < 32) : Pin.bit (pinAt n b) = b := by
  rw [Pin.bit, pinAt_val n hb]
  omega

theorem latch_pinAt (g : Gpio) (n : Port) {b : Nat} (hb : b < 32) :
    latch g (pinAt n b) = (g.data.get n).getLsbD b := by
  rw [latch, port_pinAt n hb, bit_pinAt n hb, bitOf]

/-- 10 R24: the model's `is_output` of a pin. -/
theorem isOutput_eq_pinOut (g : Gpio) (p : Pin) : isOutput g p = pinOut g p.val := by
  unfold isOutput pinOut Pin.port
  split <;> rfl

/-- 10 R24: the model's `func` of a pin. -/
theorem funcOfPin_eq_pinFunc (g : Gpio) (p : Pin) : funcOfPin g p = pinFunc g p.val := by
  unfold funcOfPin pinFunc Pin.funcReg
  split_ifs <;> rfl

/-- 40 R144, R164: the value of a data read, bit by bit. -/
theorem isData_dataValue (s : State) (n : Port) :
    IsData s n (dataValue s.gpio s.params.dataSelLatch n s.drawn) := by
  intro b hb
  rw [← bitOf, dataValue, wordOfBits_bit _ b hb]
  simp only [padLevel, isOutput_eq_pinOut, funcOfPin_eq_pinFunc, pinAt_val n hb, latch_pinAt _ n hb, bitOf,
    Bool.and_eq_true, beq_iff_eq, State.drawn]

/-- Settles O16: the read's rule answers a word with the bits that R144 and R164 say, after one draw. -/
theorem gpioDataReads : Obligations.GpioDataReads := fun s hs =>
  ⟨⟨_, isData_dataValue s .zero, readsAs_of_readRule hs (.data .zero) rfl⟩,
    ⟨_, isData_dataValue s .one, readsAs_of_readRule hs (.data .one) rfl⟩⟩

/-! ### The function-select registers -/

/-- 40 R147: the model's race check. -/
theorem funcSelRace_iff (s : State) (k : Four) : funcSelRace s k = true ↔ Race s k := by
  unfold funcSelRace Race
  cases hp : s.fselPending with
  | none => simp
  | some kv =>
    obtain ⟨k', old⟩ := kv
    simp [and_comm]

/-- 30 R113: sixteen pins in each function-select register. -/
theorem toNat_funcReg (p : Pin) : (Pin.funcReg p).toNat = p.val / 16 := by
  have hlt := p.isLt
  unfold Pin.funcReg
  split_ifs <;> simp only [Four.toNat] <;> omega

/-- 30 R113: the function-select register of a pin, by its number. -/
theorem funcReg_eq_iff (p : Pin) (k : Four) : Pin.funcReg p = k ↔ p.val / 16 = k.toNat := by
  rw [← toNat_funcReg, Four.toNat_inj]

/-- 40 R147: the model's check that a pin is given to a UART too early. -/
theorem muxBeforeEnable_iff (s : State) (k : Four) (v : Word) : muxBeforeEnable s k v = true ↔ MuxTooEarly s k v := by
  have hall : ∀ i : Uid, i ∈ Two.all := by intro i; cases i <;> decide
  simp only [muxBeforeEnable, MuxTooEarly, List.any_eq_true, Bool.and_eq_true, beq_iff_eq, bne_iff_ne,
    Bool.not_eq_true', Bool.and_eq_false_iff, funcReg_eq_iff, hall, true_and, slotOf, Pin.slot, Config.uartPinFunc]
  constructor
  · rintro ⟨i, ⟨p, hp, ⟨hk, hold⟩, hnew⟩, hen⟩
    exact ⟨i, p, hp, hk, hold, hnew, hen⟩
  · rintro ⟨i, p, hp, hk, hold, hnew, hen⟩
    exact ⟨i, ⟨p, hp, ⟨hk, hold⟩, hnew⟩, hen⟩

/-- Settles O17: the write's rule makes the two checks of R147 in their order. -/
theorem funcSelWrites : Obligations.FuncSelWrites := by
  intro s v hs ik hik
  obtain ⟨k, rfl⟩ : ∃ k, ik = ((Reg.funcSel k).writeForm v, k) := by
    simp only [List.mem_cons, List.not_mem_nil, or_false] at hik
    rcases hik with h | h | h | h
    exacts [⟨.zero, h⟩, ⟨.one, h⟩, ⟨.two, h⟩, ⟨.three, h⟩]
  simp only [exec_writeForm, ← funcSelRace_iff, ← muxBeforeEnable_iff, Bool.not_eq_true]
  refine ⟨writeRegister_unprivileged _ v hs.boundary, fun hm hrace => ?race, fun hm hrace hmux => ?early,
    fun hm hrace hmux => ?stored⟩
  case race => exact writeRegister_fault hs.boundary hm (by simp [writeRule, funcSelWrite, hrace])
  case early => exact writeRegister_fault hs.boundary hm (by simp [writeRule, funcSelWrite, hrace, hmux])
  case stored =>
    rw [← exec_writeForm]
    exact (writesAs_of_writeRule hs _ (by simp [writeRule, funcSelWrite, hrace, hmux])).1 hm

/-! ### Bus accesses -/

section BusAccess

variable {s : State} {a : Word}

theorem busTarget_outside (hw : inWindow a = false) : busTarget s a = .fault .noStep := by
  simp [busTarget, hw]

theorem busTarget_misaligned (hw : inWindow a = true) (hal : a.toNat % 4 ≠ 0) :
    busTarget s a = .fault .badAccessWidth := by
  simp [busTarget, hw, hal]

theorem busTarget_unprivileged (hw : inWindow a = true) (hal : a.toNat % 4 = 0) (hm : s.mode = .unprivileged) :
    busTarget s a = .fault .unprivilegedMmio := by
  simp [busTarget, hw, hal, privileged, hm]

/-- A failed check is the outcome of both accesses. -/
theorem busAccess_fault {k : Fault} (v : Word) (hb : s.atStart = true) (ht : busTarget s a = .fault k) :
    exec (.busRead a) s = .fault k ∧ exec (.busWrite a v) s = .fault k := by
  simp [exec, execBusRead, execBusWrite, ht, operation_fault hb]

/-- In privileged mode an access to a register's address is the transaction on the register. -/
theorem busAccess_register {r : Reg} (v : Word) (hm : s.mode = .privileged) (hr : regAt a = some r) :
    exec (.busRead a) s = readRegister s r ∧ exec (.busWrite a v) s = writeRegister s r v := by
  have ht : busTarget s a = .ok r := addr_of_regAt hr ▸ busTarget_addr r hm
  simp [exec, execBusRead, execBusWrite, ht, readRegister, writeRegister]

end BusAccess

/-- Settles O23: the checks of `busTarget` are those of R140 in their order, and past them an access is the
transaction on the register reached. -/
theorem busAccesses : Obligations.BusAccesses := by
  intro s a v hs
  refine ⟨fun hw => busAccess_fault v hs.boundary (busTarget_outside hw),
    fun hw hal => busAccess_fault v hs.boundary (busTarget_misaligned hw hal),
    fun hw hal hm => busAccess_fault v hs.boundary (busTarget_unprivileged hw hal hm),
    fun hm r hr => ?row, fun hm => ⟨?read, ?write⟩⟩
  case row =>
    rw [exec_readForm, exec_writeForm]
    exact busAccess_register v hm hr
  case read =>
    rw [(busAccess_register v hm (r := .padDir .zero) (by decide)).1, ← exec_readForm]
    exact (readsAs_of_readRule hs (.padDir .zero) rfl).1 hm
  case write =>
    rw [(busAccess_register v hm (r := .dataSet .zero) (by decide)).2, ← exec_writeForm]
    exact (writesAs_of_writeRule hs (.dataSet .zero) rfl).1 hm

end Machine
end Sys2Proof
end

section
/-! PROOF. The GPIO operations of one register access (41 R180 to R188): the argument words, one rule for an operation
that writes, that reads and that ends in an error return, and the statements over them. -/

namespace Sys2Proof.Machine

/-! ### Argument words (30 R103, R115) -/

@[simp] theorem portOf_ofNat (n : Port) : portOf (BitVec.ofNat 32 n.toNat) = some n := by
  cases n <;> rfl

theorem portOf_eq_none {w : Word} (h : 1 < w.toNat) : portOf w = none := by
  rw [portOf, twoOf, if_neg (by omega), if_neg (by omega)]

@[simp] theorem pinOf_ofNat (p : Pin) : pinOf (BitVec.ofNat 32 p.val) = some p := by
  have hval : (BitVec.ofNat 32 p.val).toNat = p.val := Nat.mod_eq_of_lt (by omega)
  simp only [pinOf, hval, p.isLt, dif_pos]

theorem pinOf_eq_none {w : Word} (h : 63 < w.toNat) : pinOf w = none := dif_neg (by omega)

@[simp] theorem dirOf_zero : dirOf 0#32 = some false := rfl

@[simp] theorem dirOf_one : dirOf 1#32 = some true := rfl

theorem dirOf_eq_none {w : Word} (h : 1 < w.toNat) : dirOf w = none := by
  rw [dirOf, if_neg (by omega), if_neg (by omega)]

/-- A word with only bit 0 given is 0 or 1. -/
theorem bitAt_zero (x : Bool) : bitAt 0 x = if x = true then 1 else 0 := rfl

/-! ### An operation of one register access does what the register's rule does -/

/-- Completion that itself writes `ret` and `out`. -/
theorem State.complete_ret_out (s : State) (op : Byte) (n : Nat) (v w : Word) :
    s.complete op n (some v) (some w) = s.returnedOut op n v w := by
  simp [State.complete, State.returnedOut, Nat.add_assoc]

/-- 60 R410: the completion of an error return. -/
theorem State.complete_errReturn (s : State) (op : Byte) (n : Nat) :
    s.errReturn.complete op n none none = s.failed op n := by
  simp [State.complete, State.errReturn, State.failed, State.drawn, Config.errSentinel, Nat.add_assoc]

section OneAccess

variable {s t : State} {i : Instr} {op : Byte} {n : Nat}

/-- An operation that writes one register, and whose write succeeds, completes with `ret = 0`. -/
theorem accesses_of_writeRule {v : Word} (hs : Ready s) (r : Reg)
    (hi : exec i s = operation s (oneStep op n 0 (regWrite s r v))) (hr : writeRule s v r = .ok t) :
    Accesses i s op n t := by
  rw [Accesses, hi]
  refine ⟨fun hm => ?_, fun hm => ?_⟩
  · rw [← State.complete_ret]
    exact oneStep_completes hs.boundary hs.slice (by rw [regWrite_privileged r v hm, hr])
  · rw [regWrite_unprivileged r v hm]
    exact operation_fault hs.boundary

/-- An operation that reads one register, and whose read answers `v`, completes with `ret = 0` and `out` a function of
`v`. -/
theorem answers_of_readRule {v : Word} {f : Word → Word} (hs : Ready s) (r : Reg)
    (hi : exec i s =
      operation s ((regRead s r).map (fun x => .did x.2 [.finish op n (some 0) (some (f x.1))])))
    (hr : readRule s r = .ok (v, t)) :
    (s.mode = .privileged → exec i s = .next (t.returnedOut op n 0 (f v))) ∧
    (s.mode = .unprivileged → exec i s = .fault .unprivilegedMmio) := by
  rw [hi]
  refine ⟨fun hm => ?_, fun hm => ?_⟩
  · rw [← State.complete_ret_out]
    exact operation_completes hs.boundary hs.slice (by rw [regRead_privileged r hm, hr, Res.map_ok])
  · rw [regRead_unprivileged r hm]
    exact operation_fault hs.boundary

/-- 60 R410: an operation with an invalid argument ends in an error return, in both modes. -/
theorem exec_eq_failed (hs : Ready s) (hi : exec i s = operation s (errStart s op n)) :
    exec i s = .next (s.failed op n) := by
  rw [hi, ← State.complete_errReturn]
  exact errStart_completes hs.boundary hs.slice

end OneAccess

/-! ### Ports -/

/-- Settles O25: each operation is a write of the port's set or reset register, whose rule sets or clears the mask's
bits; an invalid argument word names no port or no direction. -/
theorem gpioPortOperations : Obligations.GpioPortOperations := by
  intro s mask hs
  refine ⟨fun n => ⟨?setDir, ?clearDir, ?set, ?clear⟩, fun port dir => ⟨fun hbad => ?badDir, fun hport => ?badPort⟩⟩
  case setDir =>
    exact accesses_of_writeRule hs (.dirSet n) (by simp [exec, execGpioSetPortDir, dirRegister]) rfl
  case clearDir =>
    exact accesses_of_writeRule hs (.dirReset n) (by simp [exec, execGpioSetPortDir, dirRegister]) rfl
  case set => exact accesses_of_writeRule hs (.dataSet n) (by simp [exec, execGpioSetPort]) rfl
  case clear => exact accesses_of_writeRule hs (.dataReset n) (by simp [exec, execGpioClearPort]) rfl
  case badDir =>
    refine exec_eq_failed hs ?_
    rcases hbad with hport | hdir
    · simp [exec, execGpioSetPortDir, portOf_eq_none hport]
    · simp [exec, execGpioSetPortDir, dirOf_eq_none hdir]
  case badPort =>
    exact ⟨exec_eq_failed hs (by simp [exec, execGpioSetPort, portOf_eq_none hport]),
      exec_eq_failed hs (by simp [exec, execGpioClearPort, portOf_eq_none hport])⟩

/-! ### Pins -/

/-- Settles O26: each operation is a write, with the pin's bit as the mask, of a register of the pin's port. -/
theorem gpioPinOperations : Obligations.GpioPinOperations := by
  intro s hs
  refine ⟨fun pin => ⟨?setDir, ?clearDir, ?set, ?clear⟩, fun pin dir => ⟨fun hbad => ?badDir, fun hpin => ?badPin⟩⟩
  case setDir =>
    exact accesses_of_writeRule (v := Pin.mask pin) hs (.dirSet (Pin.port pin))
      (by simp [exec, execGpioSetPinDir, dirRegister]) rfl
  case clearDir =>
    exact accesses_of_writeRule (v := Pin.mask pin) hs (.dirReset (Pin.port pin))
      (by simp [exec, execGpioSetPinDir, dirRegister]) rfl
  case set =>
    exact accesses_of_writeRule (v := Pin.mask pin) hs (.dataSet (Pin.port pin)) (by simp [exec, execGpioSetPin]) rfl
  case clear =>
    exact accesses_of_writeRule (v := Pin.mask pin) hs (.dataReset (Pin.port pin))
      (by simp [exec, execGpioClearPin]) rfl
  case badDir =>
    refine exec_eq_failed hs ?_
    rcases hbad with hpin | hdir
    · simp [exec, execGpioSetPinDir, pinOf_eq_none hpin]
    · simp [exec, execGpioSetPinDir, dirOf_eq_none hdir]
  case badPin =>
    exact ⟨exec_eq_failed hs (by simp [exec, execGpioSetPin, pinOf_eq_none hpin]),
      exec_eq_failed hs (by simp [exec, execGpioClearPin, pinOf_eq_none hpin])⟩

/-! ### Reads -/

/-- Settles O27: both operations read the data register of the port, which answers a word with the bits of R144 after
one draw; `gpio.get_pin` keeps the pin's bit of it. -/
theorem gpioReads : Obligations.GpioReads := by
  intro s hs
  refine ⟨fun n => ⟨_, isData_dataValue s n, ?port⟩, fun pin => ⟨_, isData_dataValue s (Pin.port pin), ?pin⟩,
    fun w => ⟨fun hport => ?badPort, fun hpin => ?badPin⟩⟩
  case port => exact answers_of_readRule (f := id) hs (.data n) (by simp [exec, execGpioGetPort]) rfl
  case pin =>
    exact answers_of_readRule (f := fun v => if v.getLsbD (pin.val % 32) = true then 1 else 0) hs
      (.data (Pin.port pin)) (by simp [exec, execGpioGetPin, bitAt_zero, bitOf, Pin.bit]) rfl
  case badPort => exact exec_eq_failed hs (by simp [exec, execGpioGetPort, portOf_eq_none hport])
  case badPin => exact exec_eq_failed hs (by simp [exec, execGpioGetPin, pinOf_eq_none hpin])

end Sys2Proof.Machine
end

section
/-! PROOF. The critical sections (42 R220 to R228): a command of one step that succeeds, the masks in each mode, the
words that name an exception kind, and the statements over them. -/

namespace Sys2Proof.Machine

/-- A one-step command that succeeds returns its word. -/
theorem oneStep_returns {s : State} (hs : Ready s) (op : Byte) (n : Nat) (ret : Word) (t : State) :
    operation s (oneStep op n ret (.ok t)) = .next (t.returned op n ret) := by
  rw [← State.complete_ret]
  exact oneStep_completes hs.boundary hs.slice rfl

/-! ### The interrupt masks -/

/-- 42 R220: the mask word in arithmetic terms is the model's word of two bits. -/
theorem maskWord_eq_maskword (i f : Bool) : maskWord i f = maskword i f := by
  cases i <;> cases f <;> decide

theorem State.setMasks_privileged {s : State} (hm : s.mode = .privileged) (i f : Bool) :
    s.setMasks i f = { s with cpu.i := i, cpu.f := f } := by
  simp [State.setMasks, hm]

theorem State.setMasks_unprivileged {s : State} (hm : s.mode = .unprivileged) (i f : Bool) :
    s.setMasks i f = s := by
  simp [State.setMasks, hm]

/-- Settles O30: each operation returns its word after one write of the masks, which has an effect in privileged mode
only; a mask that the operation does not name is written with its own value. -/
theorem interruptMasks : Obligations.InterruptMasks := by
  intro s saved hs
  simp only [exec, execCsDisableInterrupts, execCsRestoreInterrupts, execCsDisableIrq, execCsRestoreIrq,
    execCsDisableFiq, execCsRestoreFiq, oneStep_returns hs, maskWord_eq_maskword]
  refine ⟨fun hm => ?privileged, fun hm => ?unprivileged⟩
  case privileged => simp only [State.setMasks_privileged hm, bitOf, and_self]
  case unprivileged => simp only [State.setMasks_unprivileged hm, and_self]

/-! ### The exception handlers -/

/-- 30 R121: 5 and the numbers above 7 name no exception kind. -/
theorem kindOf_eq_none {w : Word} (h : w.toNat = 5 ∨ 7 < w.toNat) : kindOf w = none := by
  unfold kindOf
  split
  case h_8 => rfl
  all_goals omega

section Handlers

variable {s : State} {kind : Word}

/-- 42 R227: a word that names a kind sets that kind's handler, in every mode. -/
theorem exec_csSetHandler_of_kind (hs : Ready s) (k : ExcKind) (hk : kindOf kind = some k) (v : Word) :
    exec (.csSetHandler kind v) s =
      .next (State.returned { s with cpu.handlers := s.cpu.handlers.set k v } 0x16 2 0) := by
  simp only [exec, execCsSetHandler, hk, oneStep_returns hs]

/-- 42 R228: a word that names a kind returns that kind's handler, in every mode. -/
theorem exec_csGetHandler_of_kind (hs : Ready s) (k : ExcKind) (hk : kindOf kind = some k) :
    exec (.csGetHandler kind) s = .next (s.returned 0x17 1 (s.cpu.handlers.get k)) := by
  rw [← State.complete_setRet]
  exact operation_completes hs.boundary hs.slice (by simp only [hk])

/-- 30 R121: a word that names no kind is refused by both commands. -/
theorem handlers_refuse (hb : s.atStart = true) (hk : kindOf kind = none) (v : Word) :
    exec (.csSetHandler kind v) s = .refused .badExceptionKind ∧
    exec (.csGetHandler kind) s = .refused .badExceptionKind := by
  simp only [exec, execCsSetHandler, execCsGetHandler, hk, operation_refused hb, and_self]

end Handlers

/-- Settles O31: the words 0 to 4, 6 and 7 name the seven kinds, and every other word names none. -/
theorem exceptionHandlers : Obligations.ExceptionHandlers := by
  intro s kind v hs
  have set (w : Word) (k : ExcKind) (hk : kindOf w = some k) := exec_csSetHandler_of_kind hs k hk v
  have get (w : Word) (k : ExcKind) (hk : kindOf w = some k) := exec_csGetHandler_of_kind hs k hk
  refine ⟨?setEach, ?getEach, fun h => handlers_refuse hs.boundary (kindOf_eq_none h) v⟩
  case setEach =>
    exact ⟨set 0 .reset rfl, set 1 .undefinedInstruction rfl, set 2 .softwareInterrupt rfl,
      set 3 .prefetchAbort rfl, set 4 .dataAbort rfl, set 6 .irq rfl, set 7 .fiq rfl⟩
  case getEach =>
    exact ⟨get 0 .reset rfl, get 1 .undefinedInstruction rfl, get 2 .softwareInterrupt rfl,
      get 3 .prefetchAbort rfl, get 4 .dataAbort rfl, get 6 .irq rfl, get 7 .fiq rfl⟩

end Sys2Proof.Machine
end

section
/-! PROOF. The circular buffers (43 R252 to R257, R260): the discipline check in the statements' terms, the checks
common to the four primitives on an initialised buffer as outcomes of a command, and the statements over them. -/

namespace Sys2Proof.Machine

/-! ### The discipline check (43 R257) -/

theorem isrLive_iff (s : State) (i : Uid) : isrLive s i = true ↔ IsrLive s i := by
  unfold isrLive IsrLive
  cases s.itc[s.params.uartIrqSrc.get i]? <;> simp [and_assoc]

/-- 45 R340: the four handles of the UART buffers, and the mask of each. -/
theorem uartOfBuffer_eq_some {s : State} {h : Nat} {i : Uid} {d : Direction} (hu : uartOfBuffer h = some (i, d)) :
    h < 4 ∧ i = (if h < 2 then .zero else .one) ∧ (guarded s (i, d) = true ↔ Guarded s h) := by
  unfold uartOfBuffer at hu
  split at hu <;> cases hu <;> simp [guarded, Guarded]

theorem uartOfBuffer_eq_none {h : Nat} (hu : uartOfBuffer h = none) : 4 ≤ h := by
  by_contra hlt
  interval_cases h <;> cases hu

theorem undisciplined_iff (s : State) (h : Nat) : undisciplined s h = true ↔ Violation s h := by
  unfold undisciplined Violation
  split
  case h_1 i d hu =>
    obtain ⟨hlt, rfl, hg⟩ := uartOfBuffer_eq_some (s := s) hu
    rw [← hg, ← isrLive_iff]
    simp [hlt, and_assoc]
  case h_2 hu =>
    have := uartOfBuffer_eq_none hu
    simp only [Bool.false_eq_true, false_iff]
    omega

theorem undisciplined_eq_false {s : State} {h : Nat} (hd : ¬ Violation s h) : undisciplined s h = false := by
  rwa [← undisciplined_iff, Bool.not_eq_true] at hd

/-! ### The common checks (43 R260) -/

theorem bufferAt_badHandle {s : State} {h : Nat} (hh : s.cb.length ≤ h) : bufferAt s h = .refused .badHandle := by
  simp [bufferAt, List.getElem?_eq_none hh]

theorem bufferAt_uninitialized {s : State} {h : Nat} {b : Cb} (hb : s.cb[h]? = some b) (hv : b.valid = false) :
    bufferAt s h = .fault .cbUninitialized := by
  simp [bufferAt, hb, hv]

theorem bufferAt_violation {s : State} {h : Nat} {b : Cb} (hb : s.cb[h]? = some b) (hv : b.valid = true)
    (hd : Violation s h) : bufferAt s h = .fault .disciplineViolation := by
  simp [bufferAt, hb, hv, (undisciplined_iff s h).mpr hd]

theorem bufferAt_ok {s : State} {h : Nat} {b : Cb} (hb : s.cb[h]? = some b) (hv : b.valid = true)
    (hd : ¬ Violation s h) : bufferAt s h = .ok b :=
  bufferAt_eq_ok.mpr ⟨hb, hv, undisciplined_eq_false hd⟩

theorem Res.bind_assoc {α β γ : Type} (x : Res α) (f : α → Res β) (g : β → Res γ) :
    (x.bind f).bind g = x.bind (fun a => (f a).bind g) := by
  cases x <;> rfl

section OnBuffer

variable {s : State} {h : Nat} {b : Cb} {i : Instr} {f : Cb → Res Start}

/-- A command that begins with the common checks is refused at a bad handle. -/
theorem exec_badHandle (hs : Ready s) (hi : exec i s = operation s ((bufferAt s h).bind f))
    (hh : s.cb.length ≤ h) : exec i s = .refused .badHandle := by
  rw [hi, bufferAt_badHandle hh]
  exact operation_refused hs.boundary

/-- It faults on a buffer that is not initialised. -/
theorem exec_uninitialized (hs : Ready s) (hi : exec i s = operation s ((bufferAt s h).bind f))
    (hb : s.cb[h]? = some b) (hv : b.valid = false) : exec i s = .fault .cbUninitialized := by
  rw [hi, bufferAt_uninitialized hb hv]
  exact operation_fault hs.boundary

/-- It faults on an access that breaks the discipline. -/
theorem exec_violation (hs : Ready s) (hi : exec i s = operation s ((bufferAt s h).bind f))
    (hb : s.cb[h]? = some b) (hv : b.valid = true) (hd : Violation s h) :
    exec i s = .fault .disciplineViolation := by
  rw [hi, bufferAt_violation hb hv hd]
  exact operation_fault hs.boundary

/-- Past the checks it begins as the buffer says. -/
theorem exec_of_checks (hi : exec i s = operation s ((bufferAt s h).bind f))
    (hb : s.cb[h]? = some b) (hv : b.valid = true) (hd : ¬ Violation s h) : exec i s = operation s (f b) := by
  rw [hi, bufferAt_ok hb hv hd, Res.bind_ok]

end OnBuffer

/-! ### Initialisation -/

/-- Settles O33: `cb.init` makes its own two checks, then the discipline check, and puts an empty buffer at the
handle. -/
theorem bufferInit : Obligations.BufferInit := by
  intro s h storage cap hs
  have capNonzero (hc : cap ≠ 0) : cap.toNat ≠ 0 := fun h0 => hc (BitVec.eq_of_toNat_eq h0)
  simp only [exec, execCbInit, cbInit]
  refine ⟨fun hh => ?badHandle, fun hh => ⟨fun hc => ?capacityZero, fun hc hd => ?violation, fun hc hd => ?done⟩⟩
  case badHandle =>
    simp only [List.getElem?_eq_none hh]
    exact operation_refused hs.boundary
  case capacityZero =>
    simp only [List.getElem?_eq_getElem hh, hc]
    exact operation_refused hs.boundary
  case violation =>
    simp only [List.getElem?_eq_getElem hh, if_neg (capNonzero hc), (undisciplined_iff s h.toNat).mpr hd, if_true]
    exact operation_fault hs.boundary
  case done =>
    simp only [List.getElem?_eq_getElem hh, if_neg (capNonzero hc), undisciplined_eq_false hd, Bool.false_eq_true,
      if_false]
    exact oneStep_returns hs 0x20 3 0 _

/-! ### The queries -/

theorem exec_cbIsEmpty (s : State) (h : Word) :
    exec (.cbIsEmpty h) s = operation s ((bufferAt s h.toNat).bind
      (fun b => .ok (.did (answerBool s b.empty) [.finish 0x21 1 none none]))) := by
  simp only [exec, execCbIsEmpty, cbIsEmpty, Res.map, Res.bind_assoc, Res.bind_ok]

theorem exec_cbIsFull (s : State) (h : Word) :
    exec (.cbIsFull h) s = operation s ((bufferAt s h.toNat).bind
      (fun b => .ok (.did (answerBool s b.full) [.finish 0x22 1 none none]))) := by
  simp only [exec, execCbIsFull, cbIsFull, Res.map, Res.bind_assoc, Res.bind_ok]

/-- A query of a Boolean that a proposition decides returns 1 where it holds and 0 where it does not. -/
theorem answerBool_returns {s : State} (hs : Ready s) (op : Byte) (n : Nat) (p : Prop) [Decidable p] :
    operation s (.ok (.did (answerBool s (decide p)) [.finish op n none none])) =
      .next (s.returned op n (if p then 1 else 0)) := by
  rw [operation_completes hs.boundary hs.slice rfl, answerBool, State.complete_setRet, bitAt_zero]
  simp only [decide_eq_true_eq]

/-- Settles O34: both queries are the common checks and then the answer of R251. -/
theorem bufferQueries : Obligations.BufferQueries := by
  intro s h hs
  have isEmpty := exec_cbIsEmpty s h
  have isFull := exec_cbIsFull s h
  refine ⟨fun hh => ⟨exec_badHandle hs isEmpty hh, exec_badHandle hs isFull hh⟩,
    fun b hb => ⟨fun hv => ⟨exec_uninitialized hs isEmpty hb hv, exec_uninitialized hs isFull hb hv⟩,
      fun hv hd => ⟨exec_violation hs isEmpty hb hv hd, exec_violation hs isFull hb hv hd⟩,
      fun hv hd => ⟨?empty, ?full⟩⟩⟩
  case empty =>
    rw [exec_of_checks isEmpty hb hv hd]
    exact answerBool_returns hs 0x21 1 (b.count = 0)
  case full =>
    rw [exec_of_checks isFull hb hv hd]
    exact answerBool_returns hs 0x22 1 (b.count = b.cap)

/-! ### Write and read -/

theorem exec_cbWrite (s : State) (h byte : Word) :
    exec (.cbWrite h byte) s = operation s ((bufferAt s h.toNat).bind (fun b => oneStep 0x23 2 0
      (if b.full then .fault .cbWriteFull else .ok (s.setCb h.toNat (b.put (lowByte byte)))))) := by
  simp only [exec, execCbWrite, cbWrite, oneStep, Res.map, Res.bind_assoc]

/-- Settles O35: past the common checks `cb.write` tests for a full buffer and puts the byte. -/
theorem bufferWrite : Obligations.BufferWrite := by
  intro s h byte hs
  have write := exec_cbWrite s h byte
  refine ⟨exec_badHandle hs write, fun b hb => ⟨exec_uninitialized hs write hb, exec_violation hs write hb,
    fun hv hd hc => ?full, fun hv hd hc => ?done⟩⟩
  case full =>
    rw [exec_of_checks write hb hv hd, Cb.full, hc, beq_self_eq_true, if_pos rfl]
    exact operation_fault hs.boundary
  case done =>
    rw [exec_of_checks write hb hv hd, Cb.full, beq_false_of_ne hc, if_neg Bool.false_ne_true]
    exact oneStep_returns hs 0x23 2 0 _

theorem exec_cbRead (s : State) (h : Word) :
    exec (.cbRead h) s = operation s ((bufferAt s h.toNat).bind (fun b =>
      if b.empty then .fault .cbReadEmpty
      else oneStep 0x24 1 (zextByte b.front) (.ok (s.setCb h.toNat b.drop)))) := by
  simp only [exec, execCbRead, cbRead, Res.map, Res.bind_assoc]
  congr 2
  funext b
  split <;> rfl

/-- Settles O36: past the common checks `cb.read` tests for an empty buffer and drops the byte at the read cursor, which
the invariant says is there. -/
theorem bufferRead : Obligations.BufferRead := by
  intro s h hs
  have read := exec_cbRead s h
  refine ⟨exec_badHandle hs read, fun b hb => ⟨exec_uninitialized hs read hb, exec_violation hs read hb,
    fun hv hd hc => ?empty, fun hv hd hc hinv => ?done⟩⟩
  case empty =>
    rw [exec_of_checks read hb hv hd, Cb.empty, hc, beq_self_eq_true, if_pos rfl]
    exact operation_fault hs.boundary
  case done =>
    obtain ⟨v, hfront⟩ := Cb.inv_front hv hinv hc
    refine ⟨v, hfront, ?_⟩
    rw [exec_of_checks read hb hv hd, Cb.empty, beq_false_of_ne hc, if_neg Bool.false_ne_true, Cb.front, hfront]
    exact oneStep_returns hs 0x24 1 _ _

end Sys2Proof.Machine
end

section
/-! PROOF. The UART registers (44 R280 to R297) and the delivery of a source (46 R394, R395): the words the registers
answer in arithmetic terms, the rows of the two UARTs as one row, and the statements over them. -/

namespace Sys2Proof

/-- A row of a table with one row for each UART is the row of some UART. -/
theorem Two.exists_of_mem_rows {α : Type} (row : Two → α) {x : α} (hx : x ∈ [row .zero, row .one]) :
    ∃ i, x = row i := by
  simp only [List.mem_cons, List.not_mem_nil, or_false] at hx
  rcases hx with h | h
  exacts [⟨.zero, h⟩, ⟨.one, h⟩]

@[simp] theorem Two.mem_all (i : Two) : i ∈ Two.all := by
  cases i <;> decide

/-! ### Words made of bits and of halves -/

theorem bitAt_true (n : Nat) : bitAt n true = BitVec.twoPow 32 n := rfl

/-- The word with bit `n` given holds it there, and 0 elsewhere. -/
theorem getLsbD_bitAt (n b : Nat) (x : Bool) :
    (bitAt n x).getLsbD b = (decide (n < 32) && decide (n = b) && x) := by
  cases x with
  | false => simp [bitAt]
  | true => rw [bitAt_true, BitVec.getLsbD_twoPow, Bool.and_true]

/-- The word with bit `n` given lies below every higher power of two. -/
theorem toNat_bitAt_lt {n k : Nat} (hnk : n < k) (x : Bool) : (bitAt n x).toNat < 2 ^ k := by
  cases x with
  | false => simp [bitAt]
  | true =>
    calc (bitAt n true).toNat = 2 ^ n % 2 ^ 32 := by rw [bitAt_true, BitVec.toNat_twoPow]
      _ ≤ 2 ^ n := Nat.mod_le _ _
      _ < 2 ^ k := Nat.pow_lt_pow_right Nat.one_lt_two hnk

/-- 30 R112: the word of two halves. -/
theorem ofNat_halves (hi : Nat) {lo : Nat} (hlo : lo < 2 ^ 16) :
    BitVec.ofNat 32 hi <<< 16 ||| BitVec.ofNat 32 lo = BitVec.ofNat 32 (hi * 2 ^ 16 + lo) := by
  have hshift : BitVec.ofNat 32 hi <<< 16 = BitVec.ofNat 32 (hi <<< 16) := by
    apply BitVec.eq_of_toNat_eq
    simp [Nat.shiftLeft_eq]
  rw [hshift, ← BitVec.ofNat_or, ← Nat.shiftLeft_add_eq_or_of_lt hlo, Nat.shiftLeft_eq]

theorem toNat_ofNat_halves {hi lo : Nat} (hhi : hi < 2 ^ 16) (hlo : lo < 2 ^ 16) :
    (BitVec.ofNat 32 (hi * 2 ^ 16 + lo)).toNat = hi * 2 ^ 16 + lo :=
  Nat.mod_eq_of_lt (by omega)

namespace Machine

/-! ### Register rows that stop -/

/-- A read whose rule faults is that fault. -/
theorem readRegister_fault {s : State} {r : Reg} {k : Fault} (hb : s.atStart = true) (hm : s.mode = .privileged)
    (hr : readRule s r = .fault k) : readRegister s r = .fault k := by
  rw [readRegister, regRead_privileged r hm, hr]
  exact operation_fault hb

/-- A read whose rule refuses is that refusal. -/
theorem readRegister_refused {s : State} {r : Reg} {why : Refusal} (hb : s.atStart = true)
    (hm : s.mode = .privileged) (hr : readRule s r = .refused why) : readRegister s r = .refused why := by
  rw [readRegister, regRead_privileged r hm, hr]
  exact operation_refused hb

/-- A write whose rule refuses is that refusal. -/
theorem writeRegister_refused {s : State} {r : Reg} {v : Word} {why : Refusal} (hb : s.atStart = true)
    (hm : s.mode = .privileged) (hr : writeRule s v r = .refused why) : writeRegister s r v = .refused why := by
  rw [writeRegister, regWrite_privileged r v hm, hr]
  exact operation_refused hb

/-- Settles O22: the rules of `UCTS`, and of a write of `USTAT`, are refusals; the privilege check stands before
them. -/
theorem unmodelledRegistersRefuse : Obligations.UnmodelledRegistersRefuse := by
  intro s v hb
  have read (i : Uid) : (s.mode = .privileged → exec (Reg.ucts i).readForm s = .refused .unmodelledRegister) ∧
      (s.mode = .unprivileged → exec (Reg.ucts i).readForm s = .fault .unprivilegedMmio) := by
    rw [exec_readForm]
    exact ⟨fun hm => readRegister_refused hb hm rfl, readRegister_unprivileged _ hb⟩
  have write (r : Reg) (why : Refusal) (hr : writeRule s v r = .refused why) :
      (s.mode = .privileged → exec (r.writeForm v) s = .refused why) ∧
      (s.mode = .unprivileged → exec (r.writeForm v) s = .fault .unprivilegedMmio) := by
    rw [exec_writeForm]
    exact ⟨fun hm => writeRegister_refused hb hm hr, writeRegister_unprivileged _ v hb⟩
  simp only [List.forall_mem_cons, List.not_mem_nil, false_implies, implies_true, and_true]
  exact ⟨⟨read .zero, read .one, write (.ucts .zero) _ rfl, write (.ucts .one) _ rfl⟩,
    write (.ustat .zero) _ rfl, write (.ustat .one) _ rfl⟩

/-! ### Control, level and baud registers -/

/-- 30 R108: the control word in arithmetic terms. -/
theorem uconValue_eq_word (u : Ucon) : uconValue u = u.word := by
  obtain ⟨txe, rxe, pen, ep, st2, tst, mrxr, mtxr⟩ := u
  revert txe rxe pen ep st2 tst mrxr mtxr
  decide

/-- Settles O18: each row is the read of its register, whose rule answers the field as it stands. -/
theorem uartRegisterReads : Obligations.UartRegisterReads := by
  intro s hs r hr
  obtain ⟨i, rfl⟩ := Two.exists_of_mem_rows (fun i => (i, (Reg.ucon i).readForm, (Reg.urxcon i).readForm,
    (Reg.utxcon i).readForm, (Reg.ubrcnt i).readForm)) hr
  refine ⟨readsAs_of_readRule hs (.ucon i) ?control, readsAs_of_readRule hs (.urxcon i) rfl,
    readsAs_of_readRule hs (.utxcon i) rfl, readsAs_of_readRule hs (.ubrcnt i) ?baud⟩
  case control => rw [uconValue_eq_word]; rfl
  case baud => rw [← ofNat_halves _ (BitVec.isLt _), BitVec.ofNat_toNat, BitVec.ofNat_toNat]; rfl

/-- Settles O21: a control write's rule makes the two checks of R281 in their order; the other rules store their
fields. -/
theorem uartRegisterWrites : Obligations.UartRegisterWrites := by
  intro s v hs r hr
  obtain ⟨i, rfl⟩ := Two.exists_of_mem_rows (fun i => (i, (Reg.ucon i).writeForm v, (Reg.urxcon i).writeForm v,
    (Reg.utxcon i).writeForm v, (Reg.ubrcnt i).writeForm v)) hr
  simp only [exec_writeForm]
  refine ⟨fun hm hfield => ?field, fun hm hfield hloop => ?loopback, writeRegister_unprivileged _ v hs.boundary,
    fun hfield hloop => ?stored, writesAs_of_writeRule hs (.urxcon i) rfl, writesAs_of_writeRule hs (.utxcon i) rfl,
    writesAs_of_writeRule hs (.ubrcnt i) rfl⟩
  case field => exact writeRegister_refused hs.boundary hm (if_pos hfield)
  case loopback => exact writeRegister_refused hs.boundary hm ((if_neg (not_not.mpr hfield)).trans (if_pos hloop))
  case stored =>
    exact writesAs_of_writeRule hs (.ucon i)
      ((if_neg (not_not.mpr hfield)).trans (if_neg (Bool.eq_false_iff.mp hloop)))

/-! ### The ready flags and the status register -/

theorem rxrdy_iff (s : State) (i : Uid) : rxrdy s i = true ↔ ReceiveReady s i := decide_eq_true_iff

theorem txrdy_iff (s : State) (i : Uid) : txrdy s i = true ↔ TransmitReady s i := decide_eq_true_iff

theorem toNat_statusWord_lt (s : State) (i : Uid) : (statusWord s i).toNat < 2 ^ 8 := by
  simp only [statusWord, BitVec.toNat_or]
  apply_rules [Nat.or_lt_two_pow, toNat_bitAt_lt] <;> decide

/-- 44 R282: the model's status word has the flags of R282, and no other bit. -/
theorem isStatus_statusWord (s : State) (i : Uid) : IsStatus s i (statusWord s i) := by
  rw [IsStatus, ← txrdy_iff, ← rxrdy_iff]
  simp only [toNat_statusWord_lt, and_true]
  simp only [statusWord, BitVec.getLsbD_or, getLsbD_bitAt]
  simp

/-- Settles O19: the read's rule answers the status word and clears the latched flags. -/
theorem statusReads : Obligations.StatusReads := by
  intro s hs r hr
  obtain ⟨i, rfl⟩ := Two.exists_of_mem_rows (fun i => (i, (Reg.ustat i).readForm)) hr
  exact ⟨_, isStatus_statusWord s i, readsAs_of_readRule hs (.ustat i) rfl⟩

/-! ### The data register -/

/-- 44 R284: a data read takes the oldest received byte. -/
theorem udataRead_cons {s : State} {i : Uid} {b : Byte} {rest : List Byte} (hf : (s.uart.get i).rxfifo = b :: rest) :
    udataRead s i = .ok (zextByte b, s.setUart i { s.uart.get i with rxfifo := rest }) := by
  simp only [udataRead, hf]

theorem udataRead_nil {s : State} {i : Uid} (hf : (s.uart.get i).rxfifo = []) :
    udataRead s i = .fault .udataReadEmpty := by
  simp only [udataRead, hf]

/-- Settles O20: the read's rule takes the head of the receive FIFO, the write's appends to the transmit FIFO. -/
theorem dataRegister : Obligations.DataRegister := by
  intro s v hs r hr
  obtain ⟨i, rfl⟩ := Two.exists_of_mem_rows (fun i => (i, (Reg.udata i).readForm, (Reg.udata i).writeForm v)) hr
  simp only [exec_readForm, exec_writeForm]
  exact ⟨fun b rest hf => readsAs_of_readRule hs (.udata i) (udataRead_cons hf),
    fun hf hm => readRegister_fault hs.boundary hm (udataRead_nil hf),
    fun hroom => writesAs_of_writeRule hs (.udata i) (if_pos hroom),
    fun hfull hm => writeRegister_fault hs.boundary hm (if_neg hfull.not_gt),
    fun hm => ⟨readRegister_unprivileged _ hs.boundary hm, writeRegister_unprivileged _ v hs.boundary hm⟩⟩

/-! ### The baud register value -/

theorem baudDivisor_eq (clock : Nat) (baud : Word) : baudDivisor clock baud = baud.toNat * 9999 / (clock / 16) := by
  rw [baudDivisor, Nat.shiftRight_eq_div_pow]
  rfl

section BaudReg

variable {clock : Nat} {baud : Word}

theorem baudReg_overflow (h : 2 ^ 32 ≤ baud.toNat * 9999) : baudReg clock baud = .fault .baudOverflow := if_pos h

theorem baudReg_range (h : baud.toNat * 9999 < 2 ^ 32) (hq : 0xFFFF < baudDivisor clock baud) :
    baudReg clock baud = .fault .baudDivisorRange :=
  (if_neg h.not_ge).trans (if_pos hq)

theorem baudReg_ok (h : baud.toNat * 9999 < 2 ^ 32) (hq : baudDivisor clock baud ≤ 0xFFFF) :
    baudReg clock baud = .ok (BitVec.ofNat 32 (baudDivisor clock baud * 2 ^ 16 + 9999)) := by
  rw [← ofNat_halves _ (by decide)]
  exact (if_neg h.not_ge).trans (if_neg hq.not_gt)

end BaudReg

/-- Settles O39: the two faults are the two checks of `baudReg`; past them the divisor fits the upper half. -/
theorem baudRegisterValue : Obligations.BaudRegisterValue := by
  refine ⟨fun clock baud _ => ?_, by decide⟩
  rw [← baudDivisor_eq]
  refine ⟨baudReg_overflow, baudReg_range, fun h hq => ⟨_, baudReg_ok h hq, ?_⟩⟩
  exact toNat_ofNat_halves (Nat.lt_succ_of_le hq) (by decide)

/-! ### The delivery of a source -/

/-- 44 R295: the request of a UART. -/
theorem irqReq_iff (s : State) (i : Uid) : irqReq s i = true ↔
    (ReceiveReady s i ∧ (s.uart.get i).ucon.mrxr = false) ∨
      (TransmitReady s i ∧ (s.uart.get i).ucon.mtxr = false) := by
  rw [← rxrdy_iff, ← txrdy_iff]
  simp [irqReq]

/-- 46 R394: the request of a source is that of a UART it is the source of. -/
theorem req_iff (s : State) (src : Nat) :
    req s src = true ↔ ∃ i : Uid, s.params.uartIrqSrc.get i = src ∧ irqReq s i = true := by
  simp only [req, List.any_eq_true, Two.mem_all, true_and, Bool.and_eq_true, beq_iff_eq]

/-- 46 R395: what a source is delivered to. -/
theorem delivers_eq_some (s : State) (src : Nat) (i : Uid) : delivers s src = some i ↔
    ∃ e, s.itc[src]? = some e ∧ e.enabled = true ∧ e.prio = .normal ∧ e.handler = some i ∧ req s src = true := by
  unfold delivers
  cases s.itc[src]? with
  | none => simp
  | some e => simp [and_assoc, and_comm, and_left_comm]

/-- Settles O49: delivery, the source's request and the UART's request, each as the rule that defines it. -/
theorem deliveryOfASource : Obligations.DeliveryOfASource := by
  intro s src i
  simp only [delivers_eq_some, req_iff, irqReq_iff]

end Machine
end Sys2Proof
end

section
/-! PROOF. The UART driver's checks (45 R342 to R348, R352): what each operation does for a valid instance, the faults
of an operation out of order, and the callback handles. -/

namespace Sys2Proof.Machine

/-! ### Argument words (30 R103) -/

@[simp] theorem uidOf_ofNat (i : Uid) : uidOf (BitVec.ofNat 32 i.toNat) = some i := portOf_ofNat i

theorem uidOf_eq_none {w : Word} (h : 1 < w.toNat) : uidOf w = none := portOf_eq_none h

theorem knownCallback_iff (s : State) (fn : Word) :
    knownCallback s fn = true ↔ fn = 0 ∨ fn ∈ s.params.callbacks.map Prod.fst := by
  simp [knownCallback]

/-! ### The operations of a valid instance -/

section ValidInstance

variable (s : State) (i : Uid)

theorem exec_uartSendByte (byte : Word) : exec (.uartSendByte (BitVec.ofNat 32 i.toNat) byte) s =
    operation s (initialized s i [.sendByteSave i (lowByte byte)]) := by
  simp only [exec, execUartSendByte, uidOf_ofNat]

theorem exec_uartReceiveByte : exec (.uartReceiveByte (BitVec.ofNat 32 i.toNat)) s =
    operation s (initialized s i [.recvByteSave i]) := by
  simp only [exec, execUartReceiveByte, uidOf_ofNat]

theorem exec_uartSend {buf : Word} (hbuf : buf ≠ 0) (count : Word) :
    exec (.uartSend (BitVec.ofNat 32 i.toNat) buf count) s =
      operation s (initialized s i (.maskRead i .mtxr true :: sendNext i buf count 0 (0 < count.toNat))) := by
  simp only [exec, execUartSend, uidOf_ofNat, if_neg hbuf]

theorem exec_uartReceive {buf : Word} (hbuf : buf ≠ 0) (count : Word) :
    exec (.uartReceive (BitVec.ofNat 32 i.toNat) buf count) s =
      operation s (initialized s i (.maskRead i .mrxr true :: recvNext i buf count 0 (0 < count.toNat))) := by
  simp only [exec, execUartReceive, uidOf_ofNat, if_neg hbuf]

theorem exec_uartInit_uninitialized (hu : (s.uart.get i).ustate = .uninitialized) {name : Word} (hname : name ≠ 0)
    (baud : Word) : exec (.uartInit (BitVec.ofNat 32 i.toNat) baud name) s =
      operation s ((baudReg s.params.coreClockHz baud).map fun reg =>
        .go (initFrames i (s.params.uartPins.get i) (s.params.uartIrqSrc.get i) reg name)) := by
  simp only [exec, execUartInit, uidOf_ofNat, if_neg hname, hu]

theorem exec_uartInit_initialized (hu : (s.uart.get i).ustate = .initialized) {name : Word} (hname : name ≠ 0)
    (baud : Word) :
    exec (.uartInit (BitVec.ofNat 32 i.toNat) baud name) s = operation s (.fault .uartReinit) := by
  simp only [exec, execUartInit, uidOf_ofNat, if_neg hname, hu]

end ValidInstance

/-! ### Operations out of order (45 R352) -/

theorem operation_initialized_fault {s : State} {i : Uid} (hb : s.atStart = true)
    (hu : (s.uart.get i).ustate = .uninitialized) (fs : List Frame) :
    operation s (initialized s i fs) = .fault .uartNotInitialized := by
  simp only [initialized, hu, operation_fault hb]

/-- Settles O41: each transfer begins with the check of R352, and `uart.init` looks at the instance's state and then at
the rate's register value, before any step. -/
theorem uartUseBeforeInit : Obligations.UartUseBeforeInit := by
  intro s i a b hb
  refine ⟨fun hu => ⟨?sendByte, ?receiveByte, fun ha => ⟨?send, ?receive⟩, fun hname k hk => ?init⟩,
    fun hu hname => ?reinit⟩
  case sendByte => exact (exec_uartSendByte s i a).trans (operation_initialized_fault hb hu _)
  case receiveByte => exact (exec_uartReceiveByte s i).trans (operation_initialized_fault hb hu _)
  case send => exact (exec_uartSend s i ha b).trans (operation_initialized_fault hb hu _)
  case receive => exact (exec_uartReceive s i ha b).trans (operation_initialized_fault hb hu _)
  case init =>
    rw [exec_uartInit_uninitialized s i hu hname, hk, Res.map_fault]
    exact operation_fault hb
  case reinit => exact (exec_uartInit_initialized s i hu hname a).trans (operation_fault hb)

/-! ### Callback handles (45 R347, R348) -/

section CallbackHandles

variable {s : State} {fn : Word}

/-- 45 R347, R348: a known handle is stored, in every mode. -/
theorem exec_uartSetCallback_known (hs : Ready s) (i : Uid) (hk : knownCallback s fn = true) :
    exec (.uartSetRxCallback (BitVec.ofNat 32 i.toNat) fn) s =
      .next ((s.setUart i { s.uart.get i with rxCb := fn }).returned 0x35 2 0) ∧
    exec (.uartSetTxCallback (BitVec.ofNat 32 i.toNat) fn) s =
      .next ((s.setUart i { s.uart.get i with txCb := fn }).returned 0x36 2 0) := by
  simp only [exec, execUartSetRxCallback, execUartSetTxCallback, uidOf_ofNat, hk, if_true, oneStep_returns hs,
    and_self]

/-- 30 R103: any other handle is refused. -/
theorem exec_uartSetCallback_unknown (hb : s.atStart = true) (i : Uid) (hk : ¬ knownCallback s fn = true) :
    exec (.uartSetRxCallback (BitVec.ofNat 32 i.toNat) fn) s = .refused .unknownCallback ∧
    exec (.uartSetTxCallback (BitVec.ofNat 32 i.toNat) fn) s = .refused .unknownCallback := by
  simp only [exec, execUartSetRxCallback, execUartSetTxCallback, uidOf_ofNat, if_neg hk, operation_refused hb,
    and_self]

end CallbackHandles

/-- Settles O47: a handle is either known, and stored, or refused; an instance above 1 names no UART. -/
theorem uartCallbackHandles : Obligations.UartCallbackHandles := by
  intro s fn hs
  refine ⟨fun i => ⟨fun hfn => ?stored, fun hzero hmem => ?refused⟩, fun id hid => ?badInstance⟩
  case stored => exact exec_uartSetCallback_known hs i ((knownCallback_iff s fn).mpr hfn)
  case refused =>
    refine exec_uartSetCallback_unknown hs.boundary i ?_
    rw [knownCallback_iff, not_or]
    exact ⟨hzero, hmem⟩
  case badInstance =>
    exact ⟨exec_eq_failed hs (by simp only [exec, execUartSetRxCallback, uidOf_eq_none hid]),
      exec_eq_failed hs (by simp only [exec, execUartSetTxCallback, uidOf_eq_none hid])⟩

end Sys2Proof.Machine
end

section
/-! PROOF. The interrupt controller's calls (46 R390 to R393): the entry of a source, the checks of `set_priority` and
of `set_handler`, and the statement over the three commands. -/

namespace Sys2Proof.Machine

/-- At a command boundary, the refusal of a one-step command's step is the outcome. -/
theorem oneStep_refused {s : State} {op : Byte} {n : Nat} {ret : Word} {x : Res State} {why : Refusal}
    (hb : s.atStart = true) (hx : x = .refused why) : operation s (oneStep op n ret x) = .refused why := by
  rw [hx, oneStep, Res.map_refused]
  exact operation_refused hb

section ControllerCall

variable {s : State} {src : Nat} {e : ItcEntry} {f : ItcEntry → ItcEntry}

/-! ### The entry of a source (46 R390) -/

theorem withSource_badSource (h : s.itc.length ≤ src) : withSource s src f = .refused .badSource := by
  simp only [withSource, List.getElem?_eq_none h]

theorem withSource_of_entry (he : s.itc[src]? = some e) :
    withSource s src f = privileged s (.ok (s.setItc src (f e))) := by
  simp only [withSource, he]

/-- A command that updates the entry of a source completes with `ret = 0` in privileged mode, and faults in
unprivileged mode. -/
theorem accesses_of_withSource {i : Instr} {op : Byte} {n : Nat} (hs : Ready s)
    (hi : exec i s = operation s (oneStep op n 0 (withSource s src f))) (he : s.itc[src]? = some e) :
    Accesses i s op n { s with itc := s.itc.set src (f e) } := by
  rw [Accesses, hi, withSource_of_entry he]
  refine ⟨fun hm => ?_, fun hm => ?_⟩
  · rw [privileged_of hm]
    exact oneStep_returns hs op n 0 _
  · rw [privileged, hm]
    exact operation_fault hs.boundary

/-! ### The checks of `set_priority` (46 R391) -/

theorem itcSetPriority_badSource (h : s.itc.length ≤ src) (level : Nat) :
    itcSetPriority s src level = .refused .badSource := by
  simp only [itcSetPriority, List.getElem?_eq_none h]

theorem itcSetPriority_badLevel (h : src < s.itc.length) {level : Nat} (hl : 1 < level) :
    itcSetPriority s src level = .refused .badLevel := by
  simp only [itcSetPriority, List.getElem?_eq_getElem h, if_pos hl]

theorem itcSetPriority_one (h : src < s.itc.length) :
    itcSetPriority s src 1 = .refused .fastSourceUnmodelled := by
  simp only [itcSetPriority, List.getElem?_eq_getElem h, lt_irrefl, if_false, if_true]

theorem itcSetPriority_zero (he : s.itc[src]? = some e) :
    itcSetPriority s src 0 = withSource s src (fun e => { e with prio := .normal }) := by
  simp only [itcSetPriority, he, Nat.not_lt_zero, zero_ne_one, if_false]

end ControllerCall

/-! ### The checks of `set_handler` (46 R392) -/

/-- 30 R103: the numbers above 2 name no handler. -/
theorem isrHandlerOf_eq_none {w : Word} (h : 2 < w.toNat) : isrHandlerOf w = none := by
  unfold isrHandlerOf
  split
  case h_4 => rfl
  all_goals omega

section SetHandler

variable {s : State} {src w : Word}

theorem exec_itcSetHandler_badSource (hb : s.atStart = true) (h : s.itc.length ≤ src.toNat) :
    exec (.itcSetHandler src w) s = .refused .badSource := by
  simp only [exec, execItcSetHandler, if_neg h.not_gt, operation_refused hb]

theorem exec_itcSetHandler_unknown (hb : s.atStart = true) (h : src.toNat < s.itc.length)
    (hw : isrHandlerOf w = none) : exec (.itcSetHandler src w) s = .refused .unknownIsrHandler := by
  simp only [exec, execItcSetHandler, if_pos h, hw, operation_refused hb]

/-- Past its checks `set_handler` stores the handler that its word names. -/
theorem accesses_itcSetHandler {e : ItcEntry} {handler : Option Uid} (hs : Ready s) (he : s.itc[src.toNat]? = some e)
    (hw : isrHandlerOf w = some handler) : Accesses (.itcSetHandler src w) s 0x41 2
      { s with itc := s.itc.set src.toNat { e with handler := handler } } := by
  obtain ⟨hsrc, -⟩ := List.getElem?_eq_some_iff.mp he
  have start : exec (.itcSetHandler src w) s =
      operation s (oneStep 0x41 2 0 (withSource s src.toNat (fun e => { e with handler := handler }))) := by
    simp only [exec, execItcSetHandler, if_pos hsrc, hw, itcSetHandler]
  exact accesses_of_withSource hs start he

end SetHandler

/-- Settles O48: the source is looked up before the level or the handler is read, and past these checks each call is an
update of the source's entry. -/
theorem controllerCalls : Obligations.ControllerCalls := by
  intro s src w hs
  have hb := hs.boundary
  refine ⟨fun h => ⟨?prioritySource, exec_itcSetHandler_badSource hb h, ?enableSource⟩,
    fun h => ⟨fun hw => ?level, ?fast, fun hw => exec_itcSetHandler_unknown hb h (isrHandlerOf_eq_none hw)⟩,
    fun e he => ⟨?normal, accesses_itcSetHandler hs he rfl, accesses_itcSetHandler hs he rfl,
      accesses_itcSetHandler hs he rfl, ?enabled⟩⟩
  case prioritySource => exact oneStep_refused hb (itcSetPriority_badSource h _)
  case enableSource => exact oneStep_refused hb (withSource_badSource h)
  case level => exact oneStep_refused hb (itcSetPriority_badLevel h hw)
  case fast => exact oneStep_refused hb (itcSetPriority_one h)
  case normal =>
    have start : exec (.itcSetPriority src 0) s =
        operation s (oneStep 0x40 2 0 (withSource s src.toNat (fun e => { e with prio := .normal }))) :=
      congrArg (fun x => operation s (oneStep 0x40 2 0 x)) (itcSetPriority_zero he)
    exact accesses_of_withSource hs start he
  case enabled => exact accesses_of_withSource (f := fun e => { e with enabled := true }) hs rfl he

end Sys2Proof.Machine
end

section
/-! PROOF. The interrupt return (60 R422): a program turn of a running machine is a step of the running context, which
in an ISR outside any callback is a burst of the ISR's frames. -/

namespace Sys2Proof.Machine

/-! ### A program turn (10 R20) -/

theorem Running.launched {s : State} (h : Running s) : ¬ launchRefused s = true := by
  obtain ⟨hlaunch, -⟩ := h
  simp [hlaunch]

theorem Running.not_stopped {s : State} (h : Running s) : ¬ s.stopped = true := by
  obtain ⟨-, hfaults, hrefusals⟩ := h
  simp [State.stopped, hfaults, hrefusals]

/-- The program's turn of a running machine is a step of the running context. -/
theorem step_run {s : State} {n : Nat} {ts : List Turn} (hs : Running s) (ht : s.sched = .run n :: ts) :
    step s = runContext { s with sched := ts, slice := n } := by
  have hgoes : ¬ ({ s with sched := ts } : State).stopped = true := hs.not_stopped
  rw [step, if_neg hs.launched, ht]
  simp only [takeTurn, if_neg hgoes]

/-! ### A step of the ISR (45 R349) -/

/-- Outside any callback the ISR's step is a burst of its frames. -/
theorem runContext_isr {s : State} {src : Nat} (hc : s.ctx = .isr src) (hcb : callbackOf s.cur.todo = none) :
    runContext s = settle s (burst s) := by
  have handler : activity s = .handler := by simp only [activity, hc, hcb]
  simp only [runContext, handler]

theorem atomic_cons {s : State} {f : Frame} {fs : List Frame} (h : s.cur.todo = f :: fs) :
    atomic s = frame f (s.setTodo fs) := by
  simp only [atomic, h]

/-- A burst ends with a first step that gives way. -/
theorem burst_rest {s t : State} (h : atomic s = .rest t) : burst s = .next t := by
  simp only [burst, h]

/-! ### The return (60 R422) -/

theorem State.interruptReturn_isr {s : State} {src : Nat} {sv : Saved} (hc : s.ctx = .isr src)
    (hsv : s.saved = some sv) :
    s.interruptReturn = { s with
      cpu := { s.cpu with i := sv.i, f := sv.f }
      ctx := .fg
      cur := sv.cont
      saved := none
      history := s.history ++ [.irqReturn src] } := by
  simp only [State.interruptReturn, hc, hsv]

/-- The ISR's last frame is a return, whose outcome `settle` passes on. -/
theorem runContext_isrReturn {s : State} {src : Nat} (hc : s.ctx = .isr src) (htodo : s.cur.todo = [.isrReturn]) :
    runContext s = .next (s.setTodo []).interruptReturn := by
  have outside : callbackOf s.cur.todo = none := by rw [htodo]; rfl
  have returned : atomic s = .rest (s.setTodo []).interruptReturn := atomic_cons htodo
  rw [runContext_isr hc outside, burst_rest returned, settle]

/-- Settles O51: the program's turn is the ISR's last frame, and the return puts the saved continuation in the place of
the ISR's. -/
theorem interruptReturn : Obligations.InterruptReturn := by
  intro s n src ts sv hs ht hc hsv htodo
  calc step s
    _ = runContext { s with sched := ts, slice := n } := step_run hs ht
    _ = .next (({ s with sched := ts, slice := n } : State).setTodo []).interruptReturn :=
      runContext_isrReturn (s := { s with sched := ts, slice := n }) hc htodo
    _ = _ := congrArg _ (State.interruptReturn_isr hc hsv)

end Sys2Proof.Machine
end

section
/-! PROOF. The encoding in both directions (30 R100 to R104), the register windows (20 R81, 30 R117), and the sample
words. -/

namespace Sys2Proof

/-! ### Decoding what was encoded -/

/-- 30 R101: a header whose opcode makes `i` of the words after it, followed by that many words, decodes to `i`. -/
theorem decode_header_args {h : Word} {args rest : List Word} {i : Instr} (hres : h.toNat / 256 = 0)
    (hop : commandOf h.toNat ((args ++ rest).getD 0 0) ((args ++ rest).getD 1 0) ((args ++ rest).getD 2 0) =
      some (args.length, i)) :
    decode (h :: (args ++ rest)) = .ok (i, rest) := by
  rw [decode_of_commandOf_some ((reservedBits_eq_zero_iff h).mpr hres) hop, if_neg (by simp), List.drop_left]

theorem busReadCommand_of_none {a : Word} (h : regAt a = none) : busReadCommand a = .busRead a := by
  rw [busReadCommand, h]

theorem busWriteCommand_of_none {a : Word} (v : Word) (h : regAt a = none) : busWriteCommand a v = .busWrite a v := by
  rw [busWriteCommand, h]

/-- 30 R102: the map makes each well-formed command of its own words: the header below 256 and the arguments it
takes. A register's row is found by looking its address up. -/
theorem commandOf_encode (i : Instr) (hi : WellFormed i) : ∃ h args, encode i = h :: args ∧ h.toNat / 256 = 0 ∧
    ∀ rest : List Word, commandOf h.toNat ((args ++ rest).getD 0 0) ((args ++ rest).getD 1 0)
      ((args ++ rest).getD 2 0) = some (args.length, i) := by
  cases i
  case busRead a =>
    have hnone : regAt a = none := Option.isNone_iff_eq_none.mp hi
    exact ⟨_, _, rfl, rfl, fun _ => congrArg (fun i => some (1, i)) (busReadCommand_of_none hnone)⟩
  case busWrite a v =>
    have hnone : regAt a = none := Option.isNone_iff_eq_none.mp hi
    exact ⟨_, _, rfl, rfl, fun _ => congrArg (fun i => some (2, i)) (busWriteCommand_of_none v hnone)⟩
  all_goals exact ⟨_, _, rfl, rfl, fun _ => rfl⟩

/-! ### Encoding what was decoded -/

theorem Reg.wellFormed_readForm (r : Reg) : WellFormed r.readForm := by
  cases r with
  | funcSel n => cases n <;> rfl
  | _ n => cases n <;> rfl

theorem Reg.wellFormed_writeForm (r : Reg) (v : Word) : WellFormed (r.writeForm v) := by
  cases r with
  | funcSel n => cases n <;> rfl
  | _ n => cases n <;> rfl

theorem wellFormed_busReadCommand (a : Word) : WellFormed (busReadCommand a) := by
  unfold busReadCommand
  split
  case h_1 r _ => exact r.wellFormed_readForm
  case h_2 hnone => exact Option.isNone_iff_eq_none.mpr hnone

theorem wellFormed_busWriteCommand (a v : Word) : WellFormed (busWriteCommand a v) := by
  unfold busWriteCommand
  split
  case h_1 r _ => exact r.wellFormed_writeForm v
  case h_2 hnone => exact Option.isNone_iff_eq_none.mpr hnone

/-- What the map gives is well formed. -/
theorem wellFormed_of_commandOf {op n : Nat} {a b c : Word} {i : Instr} (h : commandOf op a b c = some (n, i)) :
    WellFormed i := by
  unfold commandOf at h
  split at h
  case h_34 => cases h; exact wellFormed_busReadCommand a
  case h_35 => cases h; exact wellFormed_busWriteCommand a b
  all_goals cases h <;> rfl

/-- 30 R101: what a decode that succeeds has read. -/
theorem decode_eq_ok {ws rest : List Word} {i : Instr} (h : decode ws = .ok (i, rest)) :
    ∃ hd args n, ws = hd :: args ∧ commandOf hd.toNat (args.getD 0 0) (args.getD 1 0) (args.getD 2 0) = some (n, i) ∧
      n ≤ args.length ∧ rest = args.drop n := by
  unfold decode at h
  split at h
  case h_1 => cases h
  case h_2 hd args =>
    split at h
    · cases h
    · split at h
      · cases h
      · next n j hop =>
        split at h
        · cases h
        · next hlen => cases h; exact ⟨hd, args, n, rfl, hop, not_lt.mp hlen, rfl⟩

namespace Machine

/-- Settles O1: the map makes each well-formed command of its own words, and the decoder takes those words off. -/
theorem decodeOfEncode : Obligations.DecodeOfEncode := by
  intro i rest hi
  obtain ⟨h, args, henc, hres, hop⟩ := commandOf_encode i hi
  rw [henc]
  exact decode_header_args hres (hop rest)

/-- Settles O2: what the map gives is well formed and has the words that were read, which are the header and the
arguments taken. -/
theorem decodeIsCanonical : Obligations.DecodeIsCanonical := by
  intro ws rest i h
  obtain ⟨hd, args, n, rfl, hop, hlen, rfl⟩ := decode_eq_ok h
  obtain ⟨hrow, henc⟩ := commandOf_eq_some hop
  refine ⟨wellFormed_of_commandOf hop, ?_⟩
  rw [henc, BitVec.ofNat_toNat, BitVec.setWidth_eq, take_argument_slots (le_three_of_mem_argCounts hrow) hlen,
    List.cons_append, List.take_append_drop]

/-- Settles O4: each word list is written out, and `decode` computes. -/
theorem sampleWordsDecode : Obligations.SampleWordsDecode := by
  unfold Obligations.SampleWordsDecode
  decide

/-! ### The register windows -/

/-- 20 R81: an address is in a window where it lies in one of the three ranges. -/
theorem inWindow_iff (a : Word) : inWindow a = true ↔ (0x80000000 ≤ a.toNat ∧ a.toNat < 0x80000068) ∨
    (0x80005000 ≤ a.toNat ∧ a.toNat < 0x8000501C) ∨ (0x8000B000 ≤ a.toNat ∧ a.toNat < 0x8000B01C) := by
  simp [inWindow, Window.all, Window.contains, Window.base, Window.size, Config.gpioBase, Config.uartBase,
    Config.gpioWindow, Config.uartWindow]

/-- 30 R106: every fourth byte of the GPIO window has its register. -/
theorem exists_reg_gpio : ∀ k < 26, ∃ r ∈ Reg.all, r.addr = BitVec.ofNat 32 (0x80000000 + 4 * k) := by decide

/-- 30 R107: every fourth byte of a UART window has its register. -/
theorem exists_reg_uart : ∀ k < 7, (∃ r ∈ Reg.all, r.addr = BitVec.ofNat 32 (0x80005000 + 4 * k)) ∧
    ∃ r ∈ Reg.all, r.addr = BitVec.ofNat 32 (0x8000B000 + 4 * k) := by decide

/-- 30 R117: every aligned address of a window is that of a register. -/
theorem exists_reg_of_aligned {a : Word} (hw : inWindow a = true) (hal : a.toNat % 4 = 0) : ∃ r : Reg, r.addr = a := by
  have at_offset : ∀ b k : Nat, a.toNat = b + 4 * k → BitVec.ofNat 32 (b + 4 * k) = a := by
    intro b k h
    rw [← h, BitVec.ofNat_toNat, BitVec.setWidth_eq]
  rcases (inWindow_iff a).mp hw with h | h | h
  · obtain ⟨r, -, hr⟩ := exists_reg_gpio ((a.toNat - 0x80000000) / 4) (by omega)
    exact ⟨r, hr.trans (at_offset _ _ (by omega))⟩
  · obtain ⟨⟨r, -, hr⟩, -⟩ := exists_reg_uart ((a.toNat - 0x80005000) / 4) (by omega)
    exact ⟨r, hr.trans (at_offset _ _ (by omega))⟩
  · obtain ⟨-, r, -, hr⟩ := exists_reg_uart ((a.toNat - 0x8000B000) / 4) (by omega)
    exact ⟨r, hr.trans (at_offset _ _ (by omega))⟩

/-- Settles O5: the windows are three ranges of numbers, whose aligned addresses are counted off; a register's own
address is in its window and aligned. -/
theorem everyAlignedAddressIsMapped : Obligations.EveryAlignedAddressIsMapped := by
  intro a
  refine ⟨inWindow_iff a, fun hw hal => ?mapped, fun r hr => ?aligned⟩
  case mapped =>
    obtain ⟨r, rfl⟩ := exists_reg_of_aligned hw hal
    exact ⟨r, (regAt_addr r).1, rfl⟩
  case aligned =>
    obtain ⟨-, hwin, hmod⟩ := regAt_addr r
    rw [← addr_of_regAt hr]
    exact ⟨hwin, hmod⟩

end Machine
end Sys2Proof
end

section
/-! PROOF. What every step of every agent keeps: each fact is given by what the primitive updates of the machine do to
it. An update that leaves the fields a fact speaks of alone keeps it as it stands. -/

namespace Sys2Proof.Machine

/-! ### Memory (20 R82, R86) -/

theorem memInv_stepClosed : StepClosed MemInv := by
  constructor
  case toRunClosed =>
    constructor
    case store =>
      rintro s a v ha ⟨hwf, hin⟩
      refine ⟨Mem.set_wf _ _ _ hwf, fun c hc => ?_⟩
      rcases Mem.mem_set hc with rfl | hc
      · exact ha
      · exact hin c hc
    case note => intro s k v h; simpa [MemInv] using h
    case clear => intro s h; simpa [MemInv] using h
    case masks => intro s i f h; simpa [MemInv] using h
    case leave => intro s h; simpa [MemInv] using h
    all_goals intros; assumption
  all_goals intros; assumption

/-- Settles O55: a store in RAM is the one update of memory, and it keeps the canonical form. -/
theorem memoryStaysCanonical : Obligations.MemoryStaysCanonical :=
  fun _ _ h hs => memInv_stepClosed.step hs h

/-! ### Buffers (43 R250) -/

/-- Putting a buffer that meets its invariant in the place of another keeps that of all. -/
theorem BuffersInv.setCb {s : State} {n : Nat} {b : Cb} (h : BuffersInv s) (hb : Cb.Inv b) :
    BuffersInv (s.setCb n b) := by
  intro c hc
  rcases List.mem_or_eq_of_mem_set hc with hc | rfl
  · exact h c hc
  · exact hb

theorem buffersInv_stepClosed : StepClosed BuffersInv := by
  constructor
  case toRunClosed =>
    constructor
    case cbInit => intro s n a cap _ hcap h; exact h.setCb (Cb.inv_fresh hcap)
    case cbPut =>
      intro s n b v hb hv hf h
      exact h.setCb (Cb.inv_put hv hf (h b (List.mem_of_getElem? hb)))
    case cbDrop =>
      intro s n b hb hv he h
      exact h.setCb (Cb.inv_drop hv he (h b (List.mem_of_getElem? hb)))
    case note => intro s k v h; simpa [BuffersInv] using h
    case clear => intro s h; simpa [BuffersInv] using h
    case masks => intro s i f h; simpa [BuffersInv] using h
    case leave => intro s h; simpa [BuffersInv] using h
    all_goals intros; assumption
  all_goals intros; assumption

/-- Settles O54: the three updates of a buffer keep its invariant. -/
theorem buffersKeepTheirInvariant : Obligations.BuffersKeepTheirInvariant :=
  fun _ _ h hs => buffersInv_stepClosed.step hs h

/-! ### UARTs

Three of the facts are about each UART by itself. -/

/-- The changes that a step makes to a UART keep the fact `Q`, under the machine's parameters and for the UART's
identifier. -/
structure UartClosed (Q : Params → Uid → Uart → Prop) : Prop where
  errFlags : ∀ p i u, Q p i u → Q p i { u with err := ErrFlags.clear }
  rxPop : ∀ p i u b rest, u.rxfifo = b :: rest → Q p i u → Q p i { u with rxfifo := rest }
  ucon : ∀ p i u v, Q p i u → Q p i { u with ucon := Ucon.ofWord v }
  txPush : ∀ p i u b, u.txfifo.length < p.txFifoDepth → Q p i u → Q p i { u with txfifo := u.txfifo ++ [b] }
  rxThr : ∀ p i u v, Q p i u → Q p i { u with rxThr := v }
  txThr : ∀ p i u v, Q p i u → Q p i { u with txThr := v }
  ubr : ∀ p i u a b, Q p i u → Q p i { u with ubrInc := a, ubrMod := b }
  rxCb : ∀ p i u h, Q p i u → Q p i { u with rxCb := h }
  txCb : ∀ p i u h, Q p i u → Q p i { u with txCb := h }
  register : ∀ p i u, Q p i u → Q p i { u with ustate := .initialized }
  txPop : ∀ p i u b rest, u.txfifo = b :: rest → Q p i u → Q p i { u with txfifo := rest }
  rxPush : ∀ p i u b, u.rxfifo.length < p.rxFifoDepth → Q p i u → Q p i { u with rxfifo := u.rxfifo ++ [b] }
  overrun : ∀ p i u, Q p i u → Q p i { u with err := { u.err with roe := true } }
  lineError : ∀ p i u (f : LineErrors), Q p i u → Q p i { u with
    err := { u.err with se := u.err.se || f.se, pe := u.err.pe || f.pe, fe := u.err.fe || f.fe } }

/-- The fact holds of both UARTs. -/
def EachUart (Q : Params → Uid → Uart → Prop) (s : State) : Prop := ∀ i, Q s.params i (s.uart.get i)

theorem EachUart.setUart {Q : Params → Uid → Uart → Prop} {s : State} {i : Uid} {u : Uart} (h : EachUart Q s)
    (hu : Q s.params i u) : EachUart Q (s.setUart i u) := by
  intro j
  rw [State.setUart_uart, Pair.get_set]
  split
  · next hj => exact hj ▸ hu
  · exact h j

/-- A fact that the changes to a UART keep is kept of both UARTs by every step. -/
theorem UartClosed.stepClosed {Q : Params → Uid → Uart → Prop} (c : UartClosed Q) : StepClosed (EachUart Q) := by
  constructor
  case toRunClosed =>
    constructor
    case errFlags => intro s i h; exact h.setUart (c.errFlags _ _ _ (h i))
    case rxPop => intro s i b rest hb h; exact h.setUart (c.rxPop _ _ _ _ _ hb (h i))
    case ucon => intro s i v h; exact h.setUart (c.ucon _ _ _ _ (h i))
    case txPush => intro s i b hl h; exact h.setUart (c.txPush _ _ _ _ hl (h i))
    case rxThr => intro s i v h; exact h.setUart (c.rxThr _ _ _ _ (h i))
    case txThr => intro s i v h; exact h.setUart (c.txThr _ _ _ _ (h i))
    case ubr => intro s i a b h; exact h.setUart (c.ubr _ _ _ _ _ (h i))
    case rxCb => intro s i v h; exact h.setUart (c.rxCb _ _ _ _ (h i))
    case txCb => intro s i v h; exact h.setUart (c.txCb _ _ _ _ (h i))
    case register => intro s i name h; exact EachUart.setUart (s := s.emit _) h (c.register _ _ _ (h i))
    case note => intro s k v h; simpa [EachUart] using h
    case clear => intro s h; simpa [EachUart] using h
    case masks => intro s i f h; simpa [EachUart] using h
    case leave => intro s h; simpa [EachUart] using h
    all_goals intros; assumption
  case wireTx => intro s i b rest hb h; exact h.setUart (c.txPop _ _ _ _ _ hb (h i))
  case wireRx => intro s i b hl h; exact h.setUart (c.rxPush _ _ _ _ hl (h i))
  case wireRxLost => intro s i b h; exact h.setUart (c.overrun _ _ _ (h i))
  case lineError => intro s i f h; exact h.setUart (c.lineError _ _ _ _ (h i))
  all_goals intros; assumption

/-- 10 R25: each FIFO fits. -/
theorem fifoFits_uartClosed :
    UartClosed (fun p _ u => u.txfifo.length ≤ p.txFifoDepth ∧ u.rxfifo.length ≤ p.rxFifoDepth) := by
  constructor
  case rxPop =>
    rintro p i u b rest hb ⟨htx, hrx⟩
    rw [hb, List.length_cons] at hrx
    exact ⟨htx, Nat.le_of_succ_le hrx⟩
  case txPush =>
    rintro p i u b hl ⟨-, hrx⟩
    exact ⟨by simpa using hl, hrx⟩
  case txPop =>
    rintro p i u b rest hb ⟨htx, hrx⟩
    rw [hb, List.length_cons] at htx
    exact ⟨Nat.le_of_succ_le htx, hrx⟩
  case rxPush =>
    rintro p i u b hl ⟨htx, -⟩
    exact ⟨htx, by simpa using hl⟩
  all_goals intros; assumption

/-- 44 R300, R301: a control write stores no loopback bit, and no error latches the two flags. -/
theorem uartFlags_uartClosed :
    UartClosed (fun _ _ u => u.ucon.tst = false ∧ u.err.toe = false ∧ u.err.rue = false) := by
  constructor
  case errFlags => rintro p i u ⟨htst, -, -⟩; exact ⟨htst, rfl, rfl⟩
  case ucon => rintro p i u v ⟨-, hflags⟩; exact ⟨rfl, hflags⟩
  all_goals intros; assumption

/-! ### Contexts and priorities -/

/-- 10 R33: entry saves a continuation and the return takes it away. -/
theorem contextInv_stepClosed : StepClosed ContextInv := by
  constructor
  case toRunClosed =>
    constructor
    case note => intro s k v h; simpa [ContextInv] using h
    case clear => intro s h; simpa [ContextInv] using h
    case masks => intro s i f h; simpa [ContextInv] using h
    case leave =>
      intro s h
      unfold State.interruptReturn
      split
      · simp [ContextInv]
      · exact h
    all_goals intros; assumption
  case enter => intro s src i _ _; simp [ContextInv]
  all_goals intros; assumption

/-- 46 R391: replacing a source's entry by one of normal priority. -/
theorem PriorityInv.setItc {s : State} {src : Nat} {e : ItcEntry} (h : PriorityInv s) (he : e.prio = .normal) :
    PriorityInv (s.setItc src e) := by
  intro d hd
  rcases List.mem_or_eq_of_mem_set hd with hd | rfl
  · exact h d hd
  · exact he

theorem priorityInv_stepClosed : StepClosed PriorityInv := by
  constructor
  case toRunClosed =>
    constructor
    case itcPrio => intro s src e _ h; exact h.setItc rfl
    case itcHandler => intro s src e u he h; exact h.setItc (h e (List.mem_of_getElem? he))
    case itcEnable => intro s src e he h; exact h.setItc (h e (List.mem_of_getElem? he))
    case note => intro s k v h; simpa [PriorityInv] using h
    case clear => intro s h; simpa [PriorityInv] using h
    case masks => intro s i f h; simpa [PriorityInv] using h
    case leave => intro s h; simpa [PriorityInv] using h
    all_goals intros; assumption
  all_goals intros; assumption

/-- Settles O56: two of the invariants are about each UART by itself; the context's and the priorities' are kept by the
primitive updates of the context and of the controller. -/
theorem machineInvariants : Obligations.MachineInvariants := fun _ _ hs =>
  ⟨fifoFits_uartClosed.stepClosed.step hs, uartFlags_uartClosed.stepClosed.step hs, contextInv_stepClosed.step hs,
    priorityInv_stepClosed.step hs⟩

/-! ### What no step takes back -/

/-- 10 R32: events are only appended. -/
theorem history_stepClosed (es : List Event) : StepClosed (fun s => es <+: s.history) := by
  have append : ∀ {h : List Event} (e : Event), es <+: h → es <+: h ++ [e] :=
    fun e h => h.trans (List.prefix_append _ [e])
  constructor
  case toRunClosed =>
    constructor
    case complete => intro s op n ret out h; exact append _ h
    case register => intro s i name h; exact append _ h
    case invoke => intro s i d n fs h; exact append _ h
    case leave =>
      intro s h
      unfold State.interruptReturn
      split
      · exact append _ h
      · exact h
    case note => intro s k v h; simpa using h
    case clear => intro s h; simpa using h
    case masks => intro s i f h; simpa using h
    all_goals intros; assumption
  case enter => intro s src i _ h; exact append _ h
  case wireTx => intro s i b rest _ h; exact append _ h
  case wireRx => intro s i b _ h; exact append _ h
  case wireRxLost => intro s i b h; exact append _ h
  case lineError => intro s i f h; exact append _ h
  case fault => intro s k h; exact append _ h
  case refusal => intro s r h; exact append _ h
  all_goals intros; assumption

theorem mem_recordFault {s : State} {k : Fault} (j : Fault) (h : j ∈ s.faults) : j ∈ (s.recordFault k).faults := by
  unfold State.recordFault
  dsimp only
  split
  · exact h
  · exact List.mem_append_left _ h

theorem mem_recordRefusal {s : State} {r : Refusal} (q : Refusal) (h : q ∈ s.refusals) :
    q ∈ (s.recordRefusal r).refusals := by
  unfold State.recordRefusal
  dsimp only
  split
  · exact h
  · exact List.mem_append_left _ h

/-- 10 R31: what is recorded stays recorded, and the parameters and the tables' sizes stay as they are. -/
theorem recorded_stepClosed (s₀ : State) : StepClosed (fun s =>
    (∀ k ∈ s₀.faults, k ∈ s.faults) ∧ (∀ r ∈ s₀.refusals, r ∈ s.refusals) ∧ s.params = s₀.params ∧
      s.cb.length = s₀.cb.length ∧ s.itc.length = s₀.itc.length) := by
  constructor
  case toRunClosed =>
    constructor
    case note => intro s k v h; simpa using h
    case clear => intro s h; simpa using h
    case masks => intro s i f h; simpa using h
    case leave => intro s h; simpa using h
    case cbInit => intro s n a cap _ _ h; simpa using h
    case cbPut => intro s n b v _ _ _ h; simpa using h
    case cbDrop => intro s n b _ _ _ h; simpa using h
    case itcPrio => intro s src e _ h; simpa using h
    case itcHandler => intro s src e u _ h; simpa using h
    case itcEnable => intro s src e _ h; simpa using h
    all_goals intros; assumption
  case fault =>
    rintro s k ⟨hf, h⟩
    exact ⟨fun j hj => mem_recordFault j (hf j hj), h⟩
  case refusal =>
    rintro s r ⟨hf, hr, h⟩
    exact ⟨hf, fun q hq => mem_recordRefusal q (hr q hq), h⟩
  all_goals intros; assumption

/-- The UART is initialised, if it was in `s₀`. -/
def InitializedSince (s₀ : State) (_ : Params) (i : Uid) (u : Uart) : Prop :=
  (s₀.uart.get i).ustate = .initialized → u.ustate = .initialized

/-- 45 R342: an initialised UART stays so. -/
theorem initializedSince_uartClosed (s₀ : State) : UartClosed (InitializedSince s₀) := by
  constructor
  case register => intros; exact fun _ => rfl
  all_goals intros; assumption

/-- The sources that are enabled in `s₀` are enabled. -/
def EnabledSince (s₀ s : State) : Prop := ∀ (src : Nat) (e : ItcEntry), s₀.itc[src]? = some e → e.enabled = true →
  ∃ e' : ItcEntry, s.itc[src]? = some e' ∧ e'.enabled = true

/-- 46 R391 to R393: no call disables a source. -/
theorem EnabledSince.setItc {s₀ s : State} {src : Nat} {e e' : ItcEntry} (h : EnabledSince s₀ s)
    (he : s.itc[src]? = some e) (hee : e.enabled = true → e'.enabled = true) : EnabledSince s₀ (s.setItc src e') := by
  intro q d hd hen
  obtain ⟨d', hd', hen'⟩ := h q d hd hen
  rw [State.setItc_itc, List.getElem?_set]
  split
  · next hq =>
    subst hq
    rw [he] at hd'
    cases hd'
    exact ⟨e', if_pos (List.getElem?_eq_some_iff.mp he).1, hee hen'⟩
  · exact ⟨d', hd', hen'⟩

theorem enabledSince_stepClosed (s₀ : State) : StepClosed (EnabledSince s₀) := by
  constructor
  case toRunClosed =>
    constructor
    case itcPrio => intro s src e he h; exact h.setItc he id
    case itcHandler => intro s src e u he h; exact h.setItc he id
    case itcEnable => intro s src e he h; exact h.setItc he (fun _ => rfl)
    case note => intro s k v h; simpa [EnabledSince] using h
    case clear => intro s h; simpa [EnabledSince] using h
    case masks => intro s i f h; simpa [EnabledSince] using h
    case leave => intro s h; simpa [EnabledSince] using h
    all_goals intros; assumption
  all_goals intros; assumption

/-- Settles O57: each part holds of a state against itself, and every step keeps it. -/
theorem nothingIsTakenBack : Obligations.NothingIsTakenBack := by
  intro s t hs
  have history := (history_stepClosed s.history).step hs List.prefix_rfl
  obtain ⟨hfaults, hrefusals, hparams, hcb, hitc⟩ :=
    (recorded_stepClosed s).step hs ⟨fun _ h => h, fun _ h => h, rfl, rfl, rfl⟩
  have initialized := (initializedSince_uartClosed s).stepClosed.step hs (fun _ h => h)
  have enabled := (enabledSince_stepClosed s).step hs (fun _ e he hen => ⟨e, he, hen⟩)
  exact ⟨history, hfaults, hrefusals, hparams, hcb, hitc, initialized, enabled⟩

/-! ### A masked foreground (42 R230) -/

/-- The foreground is running and what is saved is as in `s₀`. -/
def Foreground (s₀ s : State) : Prop := s.ctx = .fg ∧ s.saved = s₀.saved

/-- With no interrupt taken, a return finds nothing to return from. -/
theorem foreground_runClosed (s₀ : State) : RunClosed (Foreground s₀) := by
  constructor
  case note => intro s k v h; simpa [Foreground] using h
  case clear => intro s h; simpa [Foreground] using h
  case masks => intro s i f h; simpa [Foreground] using h
  case leave =>
    intro s h
    obtain ⟨hctx, hsaved⟩ := h
    exact ⟨by simp [State.interruptReturn, hctx], by simp [State.interruptReturn, hctx, hsaved]⟩
  all_goals intros; assumption

/-- 60 R412, R413: a recorded outcome is the next state that was there, or the state with the stop recorded. -/
theorem settle_eq_next {s t : State} {o : Host.Outcome State Fault Refusal} (h : settle s o = .next t) :
    o = .next t ∨ (∃ k, t = s.recordFault k) ∨ ∃ r, t = s.recordRefusal r := by
  cases o with
  | next u => cases h; exact .inl rfl
  | fault k =>
    simp only [settle] at h
    split at h
    · cases h; exact .inr (.inl ⟨k, rfl⟩)
    · cases h
  | refused r => cases h; exact .inr (.inr ⟨r, rfl⟩)

/-- What a turn of the running context can do: the command at its pc, a burst of the ISR's frames, or of those after a
callback that has ended, or the recording of a stop. -/
theorem runContext_eq_next {s t : State} (h : runContext s = .next t) :
    (∃ c, activity s = .command c ∧ exec c s = .next t) ∨ burst s = .next t ∨
      (activity s = .callbackEnd ∧ burst s.leaveCallback = .next t) ∨
      (∃ k, t = s.recordFault k) ∨ ∃ r, t = s.recordRefusal r := by
  rcases settle_eq_next h with hu | hstop
  · split at hu
    · next c hc => exact .inl ⟨c, hc, hu⟩
    · exact .inr (.inl hu)
    · next ha => exact .inr (.inr (.inl ⟨ha, hu⟩))
    · cases hu
    · cases hu
  · exact .inr (.inr (.inr hstop))

/-- A turn of the running context keeps a fact that the primitive updates and the recording of a stop keep. -/
theorem RunClosed.runContext {P : State → Prop} (c : RunClosed P) (hfault : ∀ s k, P s → P (s.recordFault k))
    (hrefusal : ∀ s r, P s → P (s.recordRefusal r)) {s t : State} (hr : Machine.runContext s = .next t) (h : P s) :
    P t := by
  obtain ⟨i, -, hu⟩ | hu | ⟨-, hu⟩ | ⟨k, rfl⟩ | ⟨r, rfl⟩ := runContext_eq_next hr
  · exact c.exec hu h
  · exact c.burst hu h
  · exact c.burst hu (c.todo _ _ h)
  · exact hfault s k h
  · exact hrefusal s r h

/-- The line agents leave the running context and what is saved alone. -/
theorem foreground_txsStep {s₀ s : State} (i : Uid) (h : Foreground s₀ s) : Foreground s₀ (txsStep s i) := by
  unfold txsStep
  split
  · exact h
  · split <;> exact h

theorem foreground_rxlStep {s₀ s : State} (i : Uid) (b : Byte) (h : Foreground s₀ s) :
    Foreground s₀ (rxlStep s i b) := by
  unfold rxlStep
  dsimp only
  split
  · split <;> exact h
  · exact h

theorem foreground_lerrStep {s₀ s : State} (i : Uid) (f : LineErrors) (h : Foreground s₀ s) :
    Foreground s₀ (lerrStep s i f) := by
  unfold lerrStep
  dsimp only
  split <;> exact h

/-- 60 R420: the core does not take an interrupt from a foreground that masks them. -/
theorem coreStep_masked {s : State} (src : Nat) (hctx : s.ctx = .fg) (hi : s.cpu.i = true) : coreStep s src = s := by
  simp only [coreStep, hctx, hi, if_true]

theorem stopOutcome_ne_next (s t : State) : s.stopOutcome ≠ .next t := by
  unfold State.stopOutcome
  split <;> exact fun h => nomatch h

/-- No turn enters an ISR from a foreground that masks interrupts. -/
theorem foreground_takeTurn {s t : State} {turn : Turn} (hctx : s.ctx = .fg) (hi : s.cpu.i = true)
    (ht : takeTurn turn s = .next t) : Foreground s t := by
  have h : Foreground s s := ⟨hctx, rfl⟩
  cases turn <;> simp only [takeTurn] at ht
  case txs i => cases ht; exact foreground_txsStep i h
  case rxl i b => cases ht; exact foreground_rxlStep i b h
  case lerr i f => cases ht; exact foreground_lerrStep i f h
  case core src =>
    split at ht
    · exact absurd ht (stopOutcome_ne_next s t)
    · rw [coreStep_masked src hctx hi] at ht
      cases ht
      exact h
  case run n =>
    split at ht
    · exact absurd ht (stopOutcome_ne_next s t)
    · exact (foreground_runClosed s).runContext (fun _ _ h => h) (fun _ _ h => h) ht h

/-- Settles O32: only the core enters an ISR, and it finds interrupts masked; the running context's own steps leave
both fields alone, a return with no ISR running among them. -/
theorem maskedForegroundIsNotInterrupted : Obligations.MaskedForegroundIsNotInterrupted := by
  intro s t hctx hi hs
  unfold step at hs
  split at hs
  · cases hs; exact ⟨hctx, rfl⟩
  · split at hs
    · exact foreground_takeTurn hctx hi hs
    · next ts _ => exact foreground_takeTurn (s := { s with sched := ts }) hctx hi hs

end Sys2Proof.Machine
end

section
/-! PROOF. How a command begins (log 18), said once for all commands: its checks have passed, and it has made one update
of the state, or takes the steps of its frames. From it the confinement of unprivileged code, and the one command that
changes memory. -/

namespace Sys2Proof.Machine

/-! ### How a command begins -/

/-- A frame that a command's own list begins with: an access of a register other than `UDATA`. -/
def Frame.opens : Frame → Bool
  | .regWrite (.ucon _) _ => true
  | .funcRead _ _ _ => true
  | .maskRead _ _ _ => true
  | .sendByteSave _ _ => true
  | .recvByteSave _ => true
  | _ => false

/-- A frame of an operation other than `uart.receive` after which the frames that follow it are still to come. -/
def Frame.plain : Frame → Bool
  | .regWrite _ _ => true
  | .funcRead _ _ _ => true
  | .funcWrite _ _ => true
  | .maskRead _ _ _ => true
  | .initBuffer _ _ => true
  | .initPriority _ => true
  | .initHandler _ _ => true
  | .initEnable _ => true
  | .initCallbacks _ => true
  | .initRegister _ _ => true
  | .waitTx _ => true
  | .waitRx _ => true
  | .popToUdata _ => true
  | _ => false

/-- The completion of an operation other than `uart.receive`, or a frame of one that brings its completion with it. -/
def Frame.ends : Frame → Bool
  | .finish _ _ _ _ => true
  | .sendByteSave _ _ => true
  | .sendByteDrain _ _ _ => true
  | .recvByteSave _ => true
  | .recvByteTest _ _ => true
  | .recvBytePop _ _ => true
  | .recvByteData _ _ => true
  | .sendTest _ _ _ _ => true
  | .sendLoad _ _ _ _ => true
  | .sendPut _ _ _ _ _ => true
  | _ => false

/-- What an operation other than `uart.receive` has left to do comes first. -/
inductive Ahead : List Frame → Prop
  | last {f : Frame} (fs : List Frame) (hf : f.ends = true) : Ahead (f :: fs)
  | step {f : Frame} {fs : List Frame} (hf : f.plain = true) (h : Ahead fs) : Ahead (f :: fs)

theorem ahead_append {gs fs : List Frame} (hg : ∀ g ∈ gs, g.plain = true) (h : Ahead fs) : Ahead (gs ++ fs) := by
  induction gs with
  | nil => exact h
  | cons g gs ih =>
    rw [List.forall_mem_cons] at hg
    exact .step hg.1 (ih hg.2)

/-- Whatever follows what the operation has left. -/
theorem Ahead.append {gs : List Frame} (h : Ahead gs) (fs : List Frame) : Ahead (gs ++ fs) := by
  induction h with
  | last _ hf => exact .last _ hf
  | step hf _ ih => exact .step hf ih

/-- What a command's own list of frames is: its completion only, or one that begins with a register access. -/
inductive Opens : List Frame → Prop
  | finish (op : Byte) (n : Nat) (ret out : Option Word) : Opens [.finish op n ret out]
  | access {f : Frame} (fs : List Frame) (hf : f.opens = true) : Opens (f :: fs)

/-- The update of the state that a command's first step makes. -/
inductive FirstStep (i : Instr) (s : State) : State → Prop
  | err : FirstStep i s s.errReturn
  | readData {n : Port} {v : Word} {u : State} (h : regRead s (.data n) = .ok (v, u)) : FirstStep i s u
  | read {r : Reg} {v : Word} {u : State} (h : regRead s r = .ok (v, u)) (hi : i = r.readForm ∨ i = .busRead r.addr) :
      FirstStep i s (u.setRet v)
  | writeGpio {r : Reg} {v : Word} {u : State} (h : regWrite s r v = .ok u) (hr : r.window = .gpio) : FirstStep i s u
  | write {r : Reg} {v : Word} {u : State} (h : regWrite s r v = .ok u)
      (hi : i = r.writeForm v ∨ i = .busWrite r.addr v) : FirstStep i s u
  | masks (a b : Bool) : FirstStep i s (s.setMasks a b)
  | handlers (t : HandlerTable) : FirstStep i s { s with cpu := { s.cpu with handlers := t } }
  | ret (v : Word) : FirstStep i s (s.setRet v)
  | buffer (n : Nat) (b : Cb) : FirstStep i s (s.setCb n b)
  | rxCb (j : Uid) (h : Word) : FirstStep i s (s.setUart j { s.uart.get j with rxCb := h })
  | txCb (j : Uid) (h : Word) : FirstStep i s (s.setUart j { s.uart.get j with txCb := h })
  | source (src : Nat) (e : ItcEntry) (hm : s.mode = .privileged) : FirstStep i s (s.setItc src e)

/-- How a command begins: with one update, its completion to follow, or with its frames. -/
inductive Begins (i : Instr) (s : State) : Start → Prop
  | did {u : State} (h : FirstStep i s u) (op : Byte) (n : Nat) (ret out : Option Word) :
      Begins i s (.did u [.finish op n ret out])
  | go {fs : List Frame} (h : Opens fs) (hplain : (∀ id buf count, i ≠ .uartReceive id buf count) → Ahead fs) :
      Begins i s (.go fs)

/-- The meaning of the command `i` in `s` is an operation that begins so. -/
def Operates (i : Instr) (s : State) (x : Res Start) : Prop := ∀ st, x = .ok st → Begins i s st

section Operates

variable {i : Instr} {s : State} {op : Byte} {n : Nat}

theorem operates_fault (k : Fault) : Operates i s (.fault k) := fun _ h => nomatch h

theorem operates_refused (r : Refusal) : Operates i s (.refused r) := fun _ h => nomatch h

theorem operates_err : Operates i s (errStart s op n) := by
  intro st h
  cases h
  exact .did .err ..

theorem operates_did {u : State} {ret out : Option Word} (h : FirstStep i s u) :
    Operates i s (.ok (.did u [.finish op n ret out])) := by
  intro st hst
  cases hst
  exact .did h ..

theorem operates_oneStep {v : Word} {x : Res State} (h : ∀ u, x = .ok u → FirstStep i s u) :
    Operates i s (oneStep op n v x) := by
  intro st hst
  obtain ⟨u, hu, rfl⟩ := Res.map_eq_ok hst
  exact .did (h u hu) ..

theorem operates_source {v : Word} {src : Nat} {f : ItcEntry → ItcEntry} :
    Operates i s (oneStep op n v (withSource s src f)) :=
  operates_oneStep fun u hu => by
    obtain ⟨e, -, hm, rfl⟩ := withSource_eq_ok hu
    exact .source _ _ hm

theorem operates_go {fs : List Frame} (h : Opens fs)
    (hplain : (∀ id buf count, i ≠ .uartReceive id buf count) → Ahead fs) : Operates i s (.ok (.go fs)) := by
  intro st hst
  cases hst
  exact .go h hplain

/-- 45 R352: a transfer of an initialised UART. -/
theorem operates_initialized {j : Uid} {f : Frame} {fs : List Frame} (hf : f.opens = true)
    (hplain : (∀ id buf count, i ≠ .uartReceive id buf count) → Ahead (f :: fs)) :
    Operates i s (initialized s j (f :: fs)) := by
  unfold initialized
  split
  · exact operates_go (.access fs hf) hplain
  · exact operates_fault _

theorem operates_readRegister (r : Reg) : Operates r.readForm s
    ((regRead s r).map (fun x => .did (x.2.setRet x.1) [.finish 0x50 1 none none])) := by
  intro st hst
  obtain ⟨⟨v, u⟩, hu, rfl⟩ := Res.map_eq_ok hst
  exact .did (.read hu (.inl rfl)) ..

theorem operates_writeRegister (r : Reg) (v : Word) :
    Operates (r.writeForm v) s (oneStep 0x51 2 0 (regWrite s r v)) :=
  operates_oneStep fun _ hu => .write hu (.inl rfl)

end Operates

theorem window_dirRegister (n : Port) (out : Bool) : (dirRegister n out).window = .gpio := by
  cases out <;> rfl

/-- 46 R391: a call that passes its checks updates the source's entry. -/
theorem withSource_of_itcSetPriority {s u : State} {src level : Nat} (h : itcSetPriority s src level = .ok u) :
    withSource s src (fun e => { e with prio := .normal }) = .ok u := by
  unfold itcSetPriority at h
  split at h
  · cases h
  · split at h
    · cases h
    · split at h
      · cases h
      · exact h

/-- A bus access that passes its checks reaches the register at its address. -/
theorem busTarget_eq_ok {s : State} {a : Word} {r : Reg} (h : busTarget s a = .ok r) : r.addr = a := by
  unfold busTarget at h
  split at h
  · cases h
  · split at h
    · cases h
    · obtain ⟨-, h⟩ := privileged_eq_ok h
      split at h
      · next hr => cases h; exact addr_of_regAt hr
      · cases h

theorem opens_portFunc (n : Port) (fn : BitVec 2) (mask : Word) (op : Byte) (k : Nat) (ret out : Option Word) :
    Opens (halfFrames n fn mask false ++ halfFrames n fn mask true ++ [.finish op k ret out]) := by
  unfold halfFrames
  split
  · split
    · exact .finish ..
    · exact .access _ rfl
  · exact .access _ rfl

theorem plain_halfFrames (n : Port) (fn : BitVec 2) (mask : Word) (high : Bool) :
    ∀ g ∈ halfFrames n fn mask high, g.plain = true := by
  unfold halfFrames
  split <;> simp [Frame.plain]

theorem ahead_initFrames (j : Uid) (pins : UartPins) (src : Nat) (reg name : Word) :
    Ahead (initFrames j pins src reg name) := by
  have plain : ∀ g ∈ (initFrames j pins src reg name).dropLast, g.plain = true := by
    simp [initFrames, initPin, pinFuncFrames, Frame.plain]
  have hsplit : initFrames j pins src reg name =
      (initFrames j pins src reg name).dropLast ++ [.finish 0x30 3 (some 0) none] := rfl
  rw [hsplit]
  exact ahead_append plain (.last [] rfl)

theorem ahead_sendNext (j : Uid) (buf count n : Word) (going : Bool) : Ahead (sendNext j buf count n going) := by
  unfold sendNext
  split
  · exact .last _ rfl
  · exact .step rfl (.last _ rfl)

/-- Every command's meaning is an operation that begins in one of these ways. -/
theorem exec_operates (i : Instr) (s : State) : ∃ x, exec i s = operation s x ∧ Operates i s x := by
  cases i
  case gpioSetPortDir | gpioSetPinDir =>
    refine ⟨_, rfl, ?_⟩
    split
    · exact operates_oneStep fun _ h => .writeGpio h (window_dirRegister _ _)
    · exact operates_err
  case gpioSetPort | gpioClearPort | gpioSetPin | gpioClearPin =>
    refine ⟨_, rfl, ?_⟩
    split
    · exact operates_oneStep fun _ h => FirstStep.writeGpio h (by rfl)
    · exact operates_err
  case gpioGetPort | gpioGetPin =>
    refine ⟨_, rfl, ?_⟩
    split
    · intro st hst
      obtain ⟨⟨v, u⟩, hu, rfl⟩ := Res.map_eq_ok hst
      exact .did (.readData hu) ..
    · exact operates_err
  case gpioSetPortFunc port func mask =>
    refine ⟨_, rfl, ?_⟩
    split
    · refine operates_go (opens_portFunc ..) fun _ => ?_
      rw [List.append_assoc]
      exact ahead_append (plain_halfFrames _ _ _ _) (ahead_append (plain_halfFrames _ _ _ _) (.last _ rfl))
    · exact operates_err
  case gpioSetPinFunc pin func =>
    refine ⟨_, rfl, ?_⟩
    split
    · exact operates_go (.access _ rfl) fun _ => .step rfl (.last _ rfl)
    · exact operates_err
  case csDisableInterrupts | csRestoreInterrupts | csDisableIrq | csRestoreIrq | csDisableFiq | csRestoreFiq =>
    exact ⟨_, rfl, operates_did (.masks _ _)⟩
  case csSetHandler kind v =>
    refine ⟨_, rfl, ?_⟩
    split
    · exact operates_did (.handlers _)
    · exact operates_refused _
  case csGetHandler kind =>
    refine ⟨_, rfl, ?_⟩
    split
    · exact operates_did (.ret _)
    · exact operates_refused _
  case cbInit h storage cap =>
    refine ⟨_, rfl, operates_oneStep fun u hu => ?_⟩
    obtain ⟨-, -, rfl⟩ := cbInit_eq_ok hu
    exact .buffer _ _
  case cbIsEmpty | cbIsFull =>
    refine ⟨_, rfl, fun st hst => ?_⟩
    obtain ⟨e, -, rfl⟩ := Res.map_eq_ok hst
    exact .did (.ret _) ..
  case cbWrite h byte =>
    refine ⟨_, rfl, operates_oneStep fun u hu => ?_⟩
    obtain ⟨b, -, -, rfl⟩ := cbWrite_eq_ok hu
    exact .buffer _ _
  case cbRead h =>
    refine ⟨_, rfl, fun st hst => ?_⟩
    obtain ⟨⟨v, u⟩, hu, rfl⟩ := Res.map_eq_ok hst
    obtain ⟨b, -, -, -, rfl⟩ := cbRead_eq_ok hu
    exact .did (.buffer _ _) ..
  case uartInit id baud name =>
    refine ⟨_, rfl, ?_⟩
    split
    · exact operates_err
    · split
      · exact operates_err
      · split
        · exact operates_fault _
        · intro st hst
          obtain ⟨reg, -, rfl⟩ := Res.map_eq_ok hst
          exact .go (.access _ rfl) fun _ => ahead_initFrames ..
  case uartSendByte | uartReceiveByte =>
    refine ⟨_, rfl, ?_⟩
    split
    · exact operates_err
    · exact operates_initialized rfl fun _ => .last _ rfl
  case uartSend id buf count =>
    refine ⟨_, rfl, ?_⟩
    split
    · exact operates_err
    · split
      · exact operates_err
      · exact operates_initialized rfl fun _ => .step rfl (ahead_sendNext ..)
  case uartReceive id buf count =>
    refine ⟨_, rfl, ?_⟩
    split
    · exact operates_err
    · split
      · exact operates_err
      · exact operates_initialized rfl fun h => absurd rfl (h id buf count)
  case uartSetRxCallback id fn =>
    refine ⟨_, rfl, ?_⟩
    split
    · exact operates_err
    · split
      · exact operates_did (.rxCb _ _)
      · exact operates_refused _
  case uartSetTxCallback id fn =>
    refine ⟨_, rfl, ?_⟩
    split
    · exact operates_err
    · split
      · exact operates_did (.txCb _ _)
      · exact operates_refused _
  case itcSetPriority src level =>
    refine ⟨_, rfl, operates_oneStep fun u hu => ?_⟩
    obtain ⟨e, -, hm, rfl⟩ := withSource_eq_ok (withSource_of_itcSetPriority hu)
    exact .source _ _ hm
  case itcSetHandler src handler =>
    refine ⟨_, rfl, ?_⟩
    split
    · split
      · exact operates_source
      · exact operates_refused _
    · exact operates_refused _
  case itcEnableInterrupt src => exact ⟨_, rfl, operates_source⟩
  case busRead addr =>
    refine ⟨_, rfl, fun st hst => ?_⟩
    obtain ⟨r, hr, hst⟩ := Res.bind_eq_ok hst
    obtain ⟨⟨v, u⟩, hu, rfl⟩ := Res.map_eq_ok hst
    exact .did (.read hu (.inr (by rw [busTarget_eq_ok hr]))) ..
  case busWrite addr value =>
    refine ⟨_, rfl, fun st hst => ?_⟩
    obtain ⟨r, hr, hst⟩ := Res.bind_eq_ok hst
    obtain ⟨u, hu, rfl⟩ := Res.map_eq_ok hst
    exact .did (.write hu (.inr (by rw [busTarget_eq_ok hr]))) ..
  -- the rows of the opcode table: each reads its register or writes it
  all_goals first
    | exact ⟨_, rfl, operates_readRegister _⟩
    | exact ⟨_, rfl, operates_writeRegister _ _⟩

/-- From a command boundary, a command that gives a next state has made its first step, or a burst of its frames. -/
theorem operation_eq_next {s t : State} {x : Res Start} (hb : s.atStart = true) (h : operation s x = .next t) :
    (∃ u fs, x = .ok (.did u fs) ∧ t = goOn s.slice (u.push fs)) ∨
      ∃ fs, x = .ok (.go fs) ∧ burst (s.push fs) = .next t := by
  unfold operation at h
  rw [if_pos hb] at h
  split at h
  · next u fs => cases h; exact .inl ⟨u, fs, rfl, rfl⟩
  · next fs => exact .inr ⟨fs, rfl, h⟩
  · cases h
  · cases h

/-- A command from its boundary: its first step and perhaps its completion, or a burst of its frames. -/
theorem exec_eq_next {i : Instr} {s t : State} (hb : s.atStart = true) (h : exec i s = .next t) :
    (∃ u op n ret out, FirstStep i s u ∧ t = goOn s.slice (u.push [.finish op n ret out])) ∨
      ∃ fs, Opens fs ∧ ((∀ id buf count, i ≠ .uartReceive id buf count) → Ahead fs) ∧ burst (s.push fs) = .next t := by
  obtain ⟨x, hx, hop⟩ := exec_operates i s
  rw [hx] at h
  obtain ⟨u, fs, rfl, ht⟩ | ⟨fs, rfl, ht⟩ := operation_eq_next hb h
  · cases hop _ rfl with
    | did hu op n ret out => exact .inl ⟨u, op, n, ret, out, hu, ht⟩
  · cases hop _ rfl with
    | go hopens hplain => exact .inr ⟨fs, hopens, hplain, ht⟩

/-! ### Unprivileged code (60 R424, R425) -/

/-- What unprivileged code leaves as it was: everything but the results, the history, the buffers, the handler table,
the draws and the callback handles. -/
structure Confined (s t : State) : Prop where
  gpio : t.gpio = s.gpio
  itc : t.itc = s.itc
  mem : t.mem = s.mem
  cpuI : t.cpu.i = s.cpu.i
  cpuF : t.cpu.f = s.cpu.f
  ctx : t.ctx = s.ctx
  saved : t.saved = s.saved
  fselPending : t.fselPending = s.fselPending
  uart : ∀ j : Uid, ∃ rxCb txCb, t.uart.get j = { s.uart.get j with rxCb := rxCb, txCb := txCb }

theorem Confined.of_eq {s t : State} (hg : t.gpio = s.gpio) (hi : t.itc = s.itc) (hm : t.mem = s.mem)
    (hc : t.cpu.i = s.cpu.i ∧ t.cpu.f = s.cpu.f) (hx : t.ctx = s.ctx) (hs : t.saved = s.saved)
    (hf : t.fselPending = s.fselPending) (hu : t.uart = s.uart) : Confined s t :=
  ⟨hg, hi, hm, hc.1, hc.2, hx, hs, hf, fun _ => ⟨_, _, by rw [hu]⟩⟩

theorem Confined.setUart {s : State} {i : Uid} {rxCb txCb : Word} :
    Confined s (s.setUart i { s.uart.get i with rxCb := rxCb, txCb := txCb }) := by
  refine ⟨rfl, rfl, rfl, rfl, rfl, rfl, rfl, rfl, fun j => ?_⟩
  rw [State.setUart_uart, Pair.get_set]
  split
  · next hj => subst hj; exact ⟨_, _, rfl⟩
  · exact ⟨_, _, rfl⟩

section Unprivileged

variable {i : Instr} {s : State} (hm : s.mode = .unprivileged)

include hm

theorem regRead_ne_ok {r : Reg} {x : Word × State} : regRead s r ≠ .ok x := by
  rw [regRead_unprivileged r hm]
  exact fun h => nomatch h

theorem regWrite_ne_ok {r : Reg} {v : Word} {u : State} : regWrite s r v ≠ .ok u := by
  rw [regWrite_unprivileged r v hm]
  exact fun h => nomatch h

/-- 20 R95: an operation's first access faults. -/
theorem frame_opens_unprivileged {f : Frame} (hf : f.opens = true) : frame f s = .fault .unprivilegedMmio := by
  cases f
  case regWrite r v =>  simp only [frame, regWrite_unprivileged _ _ hm, Micro.ofRes]
  case funcRead | maskRead | sendByteSave | recvByteSave =>
    simp only [frame, regRead_unprivileged _ hm, Res.map_fault, Micro.ofRes]
  all_goals cases hf

/-- A command's first step is confined. -/
theorem FirstStep.confined {u : State} (h : FirstStep i s u) : Confined s u := by
  cases h
  case readData h => exact absurd h (regRead_ne_ok hm)
  case read h _ => exact absurd h (regRead_ne_ok hm)
  case writeGpio hr h => exact absurd h (regWrite_ne_ok hm)
  case write _ h => exact absurd h (regWrite_ne_ok hm)
  case masks a b => rw [State.setMasks_unprivileged hm]; exact .of_eq rfl rfl rfl ⟨rfl, rfl⟩ rfl rfl rfl rfl
  case rxCb j h => exact .setUart
  case txCb j h => exact .setUart
  case source src e hpriv => rw [hm] at hpriv; cases hpriv
  all_goals exact .of_eq rfl rfl rfl ⟨rfl, rfl⟩ rfl rfl rfl rfl

/-- 20 R95: a command that begins with frames completes, where it has no access to make, or faults. -/
theorem burst_opens_unprivileged {fs : List Frame} (h : Opens fs) :
    (∃ op n ret out, burst (s.push fs) = .next (s.complete op n ret out)) ∨
      burst (s.push fs) = .fault .unprivilegedMmio := by
  cases h
  case finish op n ret out => exact .inl ⟨op, n, ret, out, rfl⟩
  case access f fs hf => exact .inr (burst_fault (frame_opens_unprivileged (s := s.push fs) hm hf))

end Unprivileged

/-- The run after a command's first step completes it, if the slice allows. -/
theorem goOn_finish_cases (k : Nat) (u : State) (op : Byte) (n : Nat) (ret out : Option Word) :
    goOn k (u.push [.finish op n ret out]) = u.push [.finish op n ret out] ∨
      goOn k (u.push [.finish op n ret out]) = u.complete op n ret out := by
  cases k with
  | zero => exact .inl rfl
  | succ k => exact .inr (goOn_finish k u op n ret out)

theorem Confined.goOn_finish {s u : State} (h : Confined s u) (k : Nat) (op : Byte) (n : Nat) (ret out : Option Word) :
    Confined s (goOn k (u.push [.finish op n ret out])) := by
  obtain ⟨hg, hi, hm, hci, hcf, hx, hs, hf, hu⟩ := h
  rcases goOn_finish_cases k u op n ret out with hr | hr
  · rw [hr]; exact ⟨hg, hi, hm, hci, hcf, hx, hs, hf, hu⟩
  · rw [hr]; exact ⟨hg, hi, hm, hci, hcf, hx, hs, hf, hu⟩

/-- Settles O60: a command's first step is confined, for each register access and controller call faults, and the steps
of a list of frames begin with such an access. -/
theorem unprivilegedCodeIsConfined : Obligations.UnprivilegedCodeIsConfined := by
  intro i s t hb hm he
  have confined : Confined s t := by
    obtain ⟨u, op, n, ret, out, hu, rfl⟩ | ⟨fs, hopens, -, ht⟩ := exec_eq_next hb he
    · exact (hu.confined hm).goOn_finish ..
    · obtain ⟨op, n, ret, out, hburst⟩ | hburst := burst_opens_unprivileged hm hopens
      · rw [hburst] at ht
        cases ht
        exact .of_eq rfl rfl rfl ⟨rfl, rfl⟩ rfl rfl rfl rfl
      · rw [hburst] at ht
        cases ht
  obtain ⟨hgpio, hitc, hmem, hi, hf, hctx, hsaved, hpending, huart⟩ := confined
  exact ⟨hgpio, hitc, hmem, hi, hf, hctx, hsaved, hpending, huart⟩

/-! ### The memory (20 R82, 45 R346) -/

/-- The memory and the continuation are as in `s`. -/
def Keeps (s t : State) : Prop := t.mem = s.mem ∧ t.cur.todo = s.cur.todo

theorem regRead_keeps {s t : State} {r : Reg} {v : Word} (h : regRead s r = .ok (v, t)) : Keeps s t := by
  obtain ⟨-, rfl | rfl | ⟨i, -, -, rfl⟩ | ⟨i, b, rest, -, -, -, rfl⟩⟩ := regRead_cases h <;> exact ⟨rfl, rfl⟩

theorem regWrite_keeps {s t : State} {r : Reg} {v : Word} (h : regWrite s r v = .ok t) : Keeps s t := by
  obtain ⟨-, ⟨g, rfl⟩ | ⟨i, -, -, -, rfl⟩ | ⟨i, -, -, rfl⟩ | ⟨i, -, rfl⟩ | ⟨i, -, rfl⟩ | ⟨i, -, rfl⟩⟩ :=
    regWrite_cases h <;> exact ⟨rfl, rfl⟩

theorem cbRead_keeps {s t : State} {n : Nat} {v : Byte} (h : cbRead s n = .ok (v, t)) : Keeps s t := by
  obtain ⟨b, -, -, -, rfl⟩ := cbRead_eq_ok h
  exact ⟨rfl, rfl⟩

theorem Micro.ofRes_eq_go {x : Res State} {t : State} (h : Micro.ofRes x = .go t) : x = .ok t := by
  cases x with
  | ok u => cases h; rfl
  | fault k => cases h
  | refused r => cases h

theorem Micro.ofRes_ne_rest {x : Res State} {t : State} : Micro.ofRes x ≠ .rest t := by
  cases x <;> exact fun h => nomatch h

theorem frame_waitTx {s u : State} {i : Uid} {v : Word} (h : regRead s (.utxcon i) = .ok (v, u)) :
    frame (.waitTx i) s = if v = 0 then .rest (u.push [.waitTx i]) else .go u := by
  simp only [frame, h]

theorem frame_waitRx {s u : State} {i : Uid} {v : Word} (h : regRead s (.urxcon i) = .ok (v, u)) :
    frame (.waitRx i) s = if v = 0 then .rest (u.push [.waitRx i]) else .go u := by
  simp only [frame, h]

/-- 00 R9: a wait reads its level, and gives way with itself put back or goes on. -/
theorem frame_waitTx_cases {s t : State} {i : Uid} (h : frame (.waitTx i) s = .go t ∨ frame (.waitTx i) s = .rest t) :
    ∃ v u, regRead s (.utxcon i) = .ok (v, u) ∧ (t = u ∨ t = u.push [.waitTx i]) := by
  cases hr : regRead s (.utxcon i) with
  | ok x =>
    rw [frame_waitTx hr] at h
    refine ⟨x.1, x.2, rfl, ?_⟩
    split at h <;> rcases h with h | h <;> cases h
    · exact .inr rfl
    · exact .inl rfl
  | fault k => simp [frame, hr] at h
  | refused r => simp [frame, hr] at h

theorem frame_waitRx_cases {s t : State} {i : Uid} (h : frame (.waitRx i) s = .go t ∨ frame (.waitRx i) s = .rest t) :
    ∃ v u, regRead s (.urxcon i) = .ok (v, u) ∧ (t = u ∨ t = u.push [.waitRx i]) := by
  cases hr : regRead s (.urxcon i) with
  | ok x =>
    rw [frame_waitRx hr] at h
    refine ⟨x.1, x.2, rfl, ?_⟩
    split at h <;> rcases h with h | h <;> cases h
    · exact .inr rfl
    · exact .inl rfl
  | fault k => simp [frame, hr] at h
  | refused r => simp [frame, hr] at h

/-- What is left to do is ahead of the frame's own: after the frame `f`, or brought by it. -/
def Leads (f : Frame) (fs : List Frame) : Prop := f.ends = true ∨ f.plain = true ∧ Ahead fs

/-- An atomic step of an operation other than `uart.receive` leaves the memory alone, and, unless it is the completion,
the operation ahead. -/
theorem frame_leads {f : Frame} {s t : State} (hf : Leads f s.cur.todo) (h : frame f s = .go t ∨ frame f s = .rest t) :
    t.mem = s.mem ∧ (frame f s = .go t → Ahead t.cur.todo) := by
  have push : ∀ {u : State} {gs : List Frame} {p : Prop}, Keeps s u → Ahead (gs ++ s.cur.todo) →
      (u.push gs).mem = s.mem ∧ (p → Ahead (u.push gs).cur.todo) := by
    rintro u gs p ⟨hmem, htodo⟩ hgs
    exact ⟨hmem, fun _ => by rw [State.push_cur, htodo]; exact hgs⟩
  have plain : f.ends = false → Ahead s.cur.todo := by
    rcases hf with hf | ⟨-, hf⟩
    · simp [hf]
    · exact fun _ => hf
  have ofRes : ∀ {x : Res State}, Micro.ofRes x = .go t ∨ Micro.ofRes x = .rest t → x = .ok t := by
    rintro x (hx | hx)
    · exact Micro.ofRes_eq_go hx
    · exact absurd hx Micro.ofRes_ne_rest
  cases f
  case finish op n ret out =>
    rcases h with h | h <;> cases h
    exact ⟨rfl, fun h => nomatch h⟩
  case regWrite r v =>
    obtain ⟨hmem, htodo⟩ := regWrite_keeps (ofRes h)
    exact ⟨hmem, fun _ => htodo ▸ plain rfl⟩
  case funcRead k fm fv =>
    obtain ⟨⟨v, u⟩, hr, rfl⟩ := Res.map_eq_ok (ofRes h)
    obtain ⟨hmem, htodo⟩ := regRead_keeps hr
    exact push ⟨by simpa using hmem, by simpa using htodo⟩ (.step rfl (plain rfl))
  case funcWrite k v =>
    obtain ⟨u, hr, rfl⟩ := Res.map_eq_ok (ofRes h)
    obtain ⟨hmem, htodo⟩ := regWrite_keeps hr
    exact ⟨by simpa using hmem, fun _ => by simpa [htodo] using plain rfl⟩
  case maskRead i m b =>
    obtain ⟨⟨v, u⟩, hr, rfl⟩ := Res.map_eq_ok (ofRes h)
    exact push (regRead_keeps hr) (.step rfl (plain rfl))
  case initBuffer n cap =>
    obtain ⟨u, hr, rfl⟩ := Res.map_eq_ok (ofRes h)
    obtain ⟨-, -, rfl⟩ := cbInit_eq_ok hr
    exact ⟨rfl, fun _ => plain rfl⟩
  case initPriority src =>
    obtain ⟨e, -, rfl⟩ := itcSetPriority_eq_ok (ofRes h)
    exact ⟨rfl, fun _ => plain rfl⟩
  case initHandler src i =>
    obtain ⟨e, -, rfl⟩ := itcSetHandler_eq_ok (ofRes h)
    exact ⟨rfl, fun _ => plain rfl⟩
  case initEnable src =>
    obtain ⟨e, -, rfl⟩ := itcEnableInterrupt_eq_ok (ofRes h)
    exact ⟨rfl, fun _ => plain rfl⟩
  case initCallbacks i =>
    rcases h with h | h <;> cases h
    exact ⟨rfl, fun _ => plain rfl⟩
  case initRegister i name =>
    rcases h with h | h <;> cases h
    exact ⟨rfl, fun _ => plain rfl⟩
  case sendByteSave i b =>
    obtain ⟨⟨v, u⟩, hr, rfl⟩ := Res.map_eq_ok (ofRes h)
    exact push (regRead_keeps hr) (.step rfl (.last _ rfl))
  case sendByteDrain i b saved =>
    obtain ⟨e, -, rfl⟩ := Res.map_eq_ok (ofRes h)
    refine push ⟨rfl, rfl⟩ ?_
    split
    · exact .step rfl (.step rfl (.step rfl (.last _ rfl)))
    · exact .step rfl (.step rfl (.last _ rfl))
  case waitTx i =>
    obtain ⟨v, u, hr, rfl | rfl⟩ := frame_waitTx_cases h
    · exact push (gs := []) (regRead_keeps hr) (plain rfl)
    · exact push (regRead_keeps hr) (.step rfl (plain rfl))
  case waitRx i =>
    obtain ⟨v, u, hr, rfl | rfl⟩ := frame_waitRx_cases h
    · exact push (gs := []) (regRead_keeps hr) (plain rfl)
    · exact push (regRead_keeps hr) (.step rfl (plain rfl))
  case popToUdata i =>
    obtain ⟨⟨v, u⟩, hr, rfl⟩ := Res.map_eq_ok (ofRes h)
    exact push (cbRead_keeps hr) (.step rfl (plain rfl))
  case recvByteSave i =>
    obtain ⟨⟨v, u⟩, hr, rfl⟩ := Res.map_eq_ok (ofRes h)
    exact push (regRead_keeps hr) (.step rfl (.last _ rfl))
  case recvByteTest i saved =>
    obtain ⟨e, -, rfl⟩ := Res.map_eq_ok (ofRes h)
    refine push ⟨rfl, rfl⟩ ?_
    split
    · exact .step rfl (.last _ rfl)
    · exact .last _ rfl
  case recvBytePop i saved =>
    obtain ⟨⟨v, u⟩, hr, rfl⟩ := Res.map_eq_ok (ofRes h)
    exact push (cbRead_keeps hr) (.step rfl (.last _ rfl))
  case recvByteData i saved =>
    obtain ⟨⟨v, u⟩, hr, rfl⟩ := Res.map_eq_ok (ofRes h)
    exact push (regRead_keeps hr) (.step rfl (.last _ rfl))
  case sendTest i buf count n =>
    obtain ⟨e, -, rfl⟩ := Res.map_eq_ok (ofRes h)
    refine push ⟨rfl, rfl⟩ ?_
    split
    · exact (ahead_sendNext ..).append _
    · exact .last _ rfl
  case sendLoad i buf count n =>
    obtain ⟨b, -, rfl⟩ := Res.map_eq_ok (ofRes h)
    exact push ⟨rfl, rfl⟩ (.last _ rfl)
  case sendPut i buf count n b =>
    obtain ⟨u, hr, rfl⟩ := Res.map_eq_ok (ofRes h)
    obtain ⟨c, -, -, rfl⟩ := cbWrite_eq_ok hr
    exact push ⟨rfl, rfl⟩ ((ahead_sendNext ..).append _)
  all_goals rcases hf with hf | ⟨hf, -⟩ <;> cases hf

theorem leads_of_ahead {f : Frame} {fs : List Frame} (h : Ahead (f :: fs)) : Leads f fs := by
  cases h with
  | last _ hf => exact .inl hf
  | step hf h => exact .inr ⟨hf, h⟩

/-- The same of the context's next atomic step. -/
theorem atomic_ahead {s t : State} (ha : Ahead s.cur.todo) (h : atomic s = .go t ∨ atomic s = .rest t) :
    t.mem = s.mem ∧ (atomic s = .go t → Ahead t.cur.todo) := by
  cases htodo : s.cur.todo with
  | nil => rw [htodo] at ha; cases ha
  | cons f fs =>
    rw [htodo] at ha
    rw [atomic_cons htodo] at h ⊢
    exact frame_leads (s := s.setTodo fs) (leads_of_ahead ha) h

theorem goOn_ahead (n : Nat) {s : State} (ha : Ahead s.cur.todo) : (goOn n s).mem = s.mem := by
  induction n generalizing s with
  | zero => rfl
  | succ n ih =>
    rw [goOn_succ]
    cases h : atomic s with
    | go t =>
      obtain ⟨hmem, hnext⟩ := atomic_ahead ha (.inl h)
      exact (ih (hnext h)).trans hmem
    | rest t => exact (atomic_ahead ha (.inr h)).1
    | fault k => rfl
    | refused r => rfl

theorem burst_ahead {s t : State} (ha : Ahead s.cur.todo) (h : burst s = .next t) : t.mem = s.mem := by
  unfold burst at h
  split at h
  · next u hu =>
    cases h
    obtain ⟨hmem, hnext⟩ := atomic_ahead ha (.inl hu)
    exact (goOn_ahead s.slice (hnext hu)).trans hmem
  · next u hu => cases h; exact (atomic_ahead ha (.inr hu)).1
  · cases h
  · cases h

/-- No command's first step changes memory. -/
theorem FirstStep.mem {i : Instr} {s u : State} (h : FirstStep i s u) : u.mem = s.mem := by
  cases h
  case readData h => exact (regRead_keeps h).1
  case read h _ => exact (regRead_keeps h).1
  case writeGpio _ h => exact (regWrite_keeps h).1
  case write _ h => exact (regWrite_keeps h).1
  case masks a b => exact State.setMasks_mem s a b
  all_goals rfl

/-- Settles O59: a command's first step leaves the memory alone, and so does each atomic step of an operation other than
`uart.receive`, whose frames have no store among them. -/
theorem onlyReceiveWritesMemory : Obligations.OnlyReceiveWritesMemory := by
  intro i s t hb hi he
  obtain ⟨u, op, n, ret, out, hu, rfl⟩ | ⟨fs, -, hplain, ht⟩ := exec_eq_next hb he
  · have ha : Ahead (.finish op n ret out :: u.cur.todo) := .last _ rfl
    exact (goOn_ahead s.slice (s := u.push [.finish op n ret out]) ha).trans hu.mem
  · exact burst_ahead (s := s.push fs) ((hplain hi).append _) ht

end Sys2Proof.Machine
end

section
/-! PROOF. The hardware FIFOs (44 R284, R285, R298, R299): what each update of the machine does to the FIFOs of a UART
and to the bytes on its line, and the order of the bytes. -/

namespace Sys2Proof.Machine

/-! ### The bytes on a line -/

section Lines

variable (i : Uid) (h : List Event)

theorem wired_append (e : Event) : wired i (h ++ [e]) = wired i h ++ wired i [e] := List.filterMap_append

theorem received_append (e : Event) : received i (h ++ [e]) = received i h ++ received i [e] := List.filterMap_append

/-- An event that is neither a byte sent nor a byte received. -/
def Event.silent : Event → Prop
  | .wireTx _ _ => False
  | .wireRx _ _ => False
  | _ => True

variable {i h}

theorem wired_silent {e : Event} (he : e.silent) : wired i (h ++ [e]) = wired i h := by
  rw [wired_append]
  cases e with
  | wireTx | wireRx => exact he.elim
  | _ => exact List.append_nil _

theorem received_silent {e : Event} (he : e.silent) : received i (h ++ [e]) = received i h := by
  rw [received_append]
  cases e with
  | wireTx | wireRx => exact he.elim
  | _ => exact List.append_nil _

theorem wired_wireTx (j : Uid) (b : Byte) :
    wired i (h ++ [.wireTx j b]) = wired i h ++ if j = i then [b] else [] := by
  rw [wired_append]
  by_cases hj : j = i <;> simp [wired, hj]

theorem received_wireTx (j : Uid) (b : Byte) : received i (h ++ [.wireTx j b]) = received i h := by
  rw [received_append]
  exact List.append_nil _

theorem wired_wireRx (j : Uid) (b : Byte) : wired i (h ++ [.wireRx j b]) = wired i h := by
  rw [wired_append]
  exact List.append_nil _

theorem received_wireRx (j : Uid) (b : Byte) :
    received i (h ++ [.wireRx j b]) = received i h ++ if j = i then [b] else [] := by
  rw [received_append]
  by_cases hj : j = i <;> simp [received, hj]

end Lines

/-! ### What an update does to the FIFOs of a UART -/

/-- UART `i`'s bytes stand where they stood. -/
structure SameFifos (i : Uid) (s t : State) : Prop where
  wired : wired i t.history = wired i s.history
  received : received i t.history = received i s.history
  tx : (t.uart.get i).txfifo = (s.uart.get i).txfifo
  rx : (t.uart.get i).rxfifo = (s.uart.get i).rxfifo

/-- A byte has been put into the transmit FIFO. -/
structure TxPushed (i : Uid) (b : Byte) (s t : State) : Prop where
  wired : wired i t.history = wired i s.history
  received : received i t.history = received i s.history
  tx : (t.uart.get i).txfifo = (s.uart.get i).txfifo ++ [b]
  rx : (t.uart.get i).rxfifo = (s.uart.get i).rxfifo

/-- A byte has been taken off the receive FIFO. -/
structure RxPopped (i : Uid) (b : Byte) (s t : State) : Prop where
  wired : wired i t.history = wired i s.history
  received : received i t.history = received i s.history
  tx : (t.uart.get i).txfifo = (s.uart.get i).txfifo
  rx : (s.uart.get i).rxfifo = b :: (t.uart.get i).rxfifo

namespace SameFifos

variable {i : Uid} {s t : State}

theorem refl (i : Uid) (s : State) : SameFifos i s s := ⟨rfl, rfl, rfl, rfl⟩

theorem of_eq (hu : t.uart = s.uart) (hh : t.history = s.history) : SameFifos i s t := by
  constructor <;> simp only [hu, hh]

theorem of_event {e : Event} (he : e.silent) (hu : t.uart = s.uart) (hh : t.history = s.history ++ [e]) :
    SameFifos i s t :=
  ⟨by rw [hh, wired_silent he], by rw [hh, received_silent he], by rw [hu], by rw [hu]⟩

/-- A UART is replaced by one with the same FIFOs. -/
theorem setUart (i j : Uid) {u : Uart} (htx : u.txfifo = (s.uart.get j).txfifo) (hrx : u.rxfifo = (s.uart.get j).rxfifo) :
    SameFifos i s (s.setUart j u) := by
  refine ⟨rfl, rfl, ?_, ?_⟩
  all_goals
    rw [State.setUart_uart, Pair.get_set]
    split
    · next hij => subst hij; assumption
    · rfl

/-- The same, with an event that is no byte. -/
theorem setUart_emit (i j : Uid) {u : Uart} {e : Event} (he : e.silent) (htx : u.txfifo = (s.uart.get j).txfifo)
    (hrx : u.rxfifo = (s.uart.get j).rxfifo) : SameFifos i s ((s.setUart j u).emit e) := by
  obtain ⟨-, -, htx', hrx'⟩ := SameFifos.setUart (s := s) i j htx hrx
  exact ⟨wired_silent he, received_silent he, htx', hrx'⟩

/-- The other UART is replaced. -/
theorem setUart_of_ne {j : Uid} (hij : i ≠ j) (u : Uart) : SameFifos i s (s.setUart j u) :=
  ⟨rfl, rfl, by rw [State.setUart_uart, Pair.get_set, if_neg hij], by rw [State.setUart_uart, Pair.get_set, if_neg hij]⟩

theorem interruptReturn (i : Uid) (s : State) : SameFifos i s s.interruptReturn := by
  unfold State.interruptReturn
  split
  · exact .of_event (e := .irqReturn _) trivial rfl rfl
  · exact .refl i s

end SameFifos

section Updates

variable {i : Uid} {s t : State}

theorem regRead_fifos {r : Reg} {v : Word} (h : regRead s r = .ok (v, t)) :
    SameFifos i s t ∨ r = .udata i ∧ ∃ b, v = zextByte b ∧ RxPopped i b s t := by
  obtain ⟨-, rfl | rfl | ⟨j, -, -, rfl⟩ | ⟨j, b, rest, rfl, hb, rfl, rfl⟩⟩ := regRead_cases h
  · exact .inl (.refl i t)
  · exact .inl (.of_eq rfl rfl)
  · exact .inl (.setUart i j rfl rfl)
  · by_cases hij : i = j
    · subst hij
      exact .inr ⟨rfl, b, rfl, rfl, rfl, by simp, by simp [hb]⟩
    · exact .inl (.setUart_of_ne hij _)

theorem regWrite_fifos {r : Reg} {v : Word} (h : regWrite s r v = .ok t) :
    SameFifos i s t ∨ r = .udata i ∧ TxPushed i (lowByte v) s t := by
  obtain ⟨-, ⟨g, rfl⟩ | ⟨j, -, -, -, rfl⟩ | ⟨j, rfl, -, rfl⟩ | ⟨j, -, rfl⟩ | ⟨j, -, rfl⟩ | ⟨j, -, rfl⟩⟩ :=
    regWrite_cases h
  case inr.inr.inl =>
    by_cases hij : i = j
    · subst hij
      exact .inr ⟨rfl, rfl, rfl, by simp, by simp⟩
    · exact .inl (.setUart_of_ne hij _)
  case inl => exact .inl (.of_eq rfl rfl)
  all_goals exact .inl (.setUart i j rfl rfl)

theorem regRead_sameFifos {r : Reg} {v : Word} (hr : r ≠ .udata i) (h : regRead s r = .ok (v, t)) : SameFifos i s t :=
  (regRead_fifos h).resolve_right fun ⟨he, _⟩ => hr he

theorem regWrite_sameFifos {r : Reg} {v : Word} (hr : r ≠ .udata i) (h : regWrite s r v = .ok t) : SameFifos i s t :=
  (regWrite_fifos h).resolve_right fun ⟨he, _⟩ => hr he

theorem cbRead_sameFifos {n : Nat} {v : Byte} (h : cbRead s n = .ok (v, t)) : SameFifos i s t := by
  obtain ⟨b, -, -, -, rfl⟩ := cbRead_eq_ok h
  exact .of_eq rfl rfl

theorem cbWrite_sameFifos {n : Nat} {v : Byte} (h : cbWrite s n v = .ok t) : SameFifos i s t := by
  obtain ⟨b, -, -, rfl⟩ := cbWrite_eq_ok h
  exact .of_eq rfl rfl

end Updates

/-! ### An atomic step (log 5) -/

/-- What the step of frame `f` does to UART `i`'s FIFOs: nothing, or the access of `UDATA` that it makes. -/
inductive FrameFifos (i : Uid) (f : Frame) (s t : State) : Prop
  | same (h : SameFifos i s t)
  | push {v : Word} (hf : f = .regWrite (.udata i) v) (h : TxPushed i (lowByte v) s t)
  | pop {b : Byte} {saved : Bool} (hf : f = .recvByteData i saved) (h : RxPopped i b s t)
      (htodo : t.cur.todo = recvByteEnd i saved b ++ s.cur.todo)
  | isrPop {b : Byte} {st : Word} (hf : f = .isrRxData i st) (h : RxPopped i b s t)
      (htodo : t.cur.todo = .isrRxPut i st b :: s.cur.todo)

theorem frame_fifos {i : Uid} {f : Frame} {s t : State} (h : frame f s = .go t ∨ frame f s = .rest t) :
    FrameFifos i f s t := by
  have ofRes : ∀ {x : Res State}, Micro.ofRes x = .go t ∨ Micro.ofRes x = .rest t → x = .ok t := by
    rintro x (hx | hx)
    · exact Micro.ofRes_eq_go hx
    · exact absurd hx Micro.ofRes_ne_rest
  have push {u : State} (gs : List Frame) (hu : SameFifos i s u) : SameFifos i s (u.push gs) :=
    ⟨hu.wired, hu.received, hu.tx, hu.rx⟩
  cases f
  case finish op n ret out =>
    rcases h with h | h <;> cases h
    exact .same (.of_event (e := .done _ _ _ _ _) trivial rfl rfl)
  case regWrite r v =>
    rcases regWrite_fifos (i := i) (ofRes h) with hs | ⟨rfl, hp⟩
    · exact .same hs
    · exact .push rfl hp
  case funcRead k fm fv =>
    obtain ⟨⟨v, u⟩, hr, rfl⟩ := Res.map_eq_ok (ofRes h)
    obtain ⟨hw, hrec, htx, hrx⟩ := regRead_sameFifos (i := i) (by simp) hr
    exact .same ⟨by simpa using hw, by simpa using hrec, by simpa using htx, by simpa using hrx⟩
  case funcWrite k v =>
    obtain ⟨u, hr, rfl⟩ := Res.map_eq_ok (ofRes h)
    obtain ⟨hw, hrec, htx, hrx⟩ := regWrite_sameFifos (i := i) (by simp) hr
    exact .same ⟨by simpa using hw, by simpa using hrec, by simpa using htx, by simpa using hrx⟩
  case initBuffer n cap =>
    obtain ⟨u, hr, rfl⟩ := Res.map_eq_ok (ofRes h)
    obtain ⟨-, -, rfl⟩ := cbInit_eq_ok hr
    exact .same (.of_eq rfl rfl)
  case initPriority src =>
    obtain ⟨e, -, rfl⟩ := itcSetPriority_eq_ok (ofRes h)
    exact .same (.of_eq rfl rfl)
  case initHandler src j =>
    obtain ⟨e, -, rfl⟩ := itcSetHandler_eq_ok (ofRes h)
    exact .same (.of_eq rfl rfl)
  case initEnable src =>
    obtain ⟨e, -, rfl⟩ := itcEnableInterrupt_eq_ok (ofRes h)
    exact .same (.of_eq rfl rfl)
  case initCallbacks j =>
    rcases h with h | h <;> cases h
    exact .same (.setUart i j rfl rfl)
  case initRegister j name =>
    rcases h with h | h <;> cases h
    exact .same (.setUart_emit i j (e := .registered j name) trivial rfl rfl)
  case waitTx j =>
    obtain ⟨v, u, hr, rfl | rfl⟩ := frame_waitTx_cases h
    · exact .same (regRead_sameFifos (by simp) hr)
    · exact .same (push _ (regRead_sameFifos (by simp) hr))
  case waitRx j =>
    obtain ⟨v, u, hr, rfl | rfl⟩ := frame_waitRx_cases h
    · exact .same (regRead_sameFifos (by simp) hr)
    · exact .same (push _ (regRead_sameFifos (by simp) hr))
  case recvByteData j saved =>
    obtain ⟨⟨v, u⟩, hr, rfl⟩ := Res.map_eq_ok (ofRes h)
    obtain ⟨-, htodo⟩ := regRead_keeps hr
    rcases regRead_fifos (i := i) hr with hs | ⟨hj, b, rfl, hp⟩
    · exact .same (push _ hs)
    · cases hj
      exact .pop (b := b) rfl ⟨hp.wired, hp.received, hp.tx, hp.rx⟩ (by simp [htodo])
  case isrRxData j st =>
    obtain ⟨⟨v, u⟩, hr, rfl⟩ := Res.map_eq_ok (ofRes h)
    obtain ⟨-, htodo⟩ := regRead_keeps hr
    rcases regRead_fifos (i := i) hr with hs | ⟨hj, b, rfl, hp⟩
    · exact .same (push _ hs)
    · cases hj
      exact .isrPop (b := b) rfl ⟨hp.wired, hp.received, hp.tx, hp.rx⟩ (by simp [htodo])
  case popToUdata | recvBytePop | recvPop =>
    obtain ⟨⟨v, u⟩, hr, rfl⟩ := Res.map_eq_ok (ofRes h)
    exact .same (push _ (cbRead_sameFifos hr))
  case sendPut | isrRxPut =>
    obtain ⟨u, hr, rfl⟩ := Res.map_eq_ok (ofRes h)
    exact .same (push _ (cbWrite_sameFifos hr))
  case recvStore j buf count n b =>
    obtain ⟨u, hr, rfl⟩ := Res.map_eq_ok (ofRes h)
    obtain ⟨-, rfl⟩ := memWrite_spec hr
    exact .same (.of_eq rfl rfl)
  case sendByteDrain | recvByteTest | sendTest | sendLoad | recvTest | isrRxTest | isrRxEnd | isrTxTest | isrTxEnd =>
    obtain ⟨e, -, rfl⟩ := Res.map_eq_ok (ofRes h)
    exact .same (.of_eq rfl rfl)
  case isrRxCall | isrTxCall | callback =>
    rcases h with h | h <;> cases h
    exact .same (.of_eq rfl rfl)
  case invoke j d n =>
    rcases h with h | h <;> cases h
    exact .same (.of_event (e := .callbackInvoked j d n) trivial rfl rfl)
  case isrReturn =>
    rcases h with h | h <;> cases h
    exact .same (.interruptReturn i s)
  case maskRead | sendByteSave | recvByteSave | isrStatus | isrRxMask | isrRxLevel | isrTxMask | isrTxLevel =>
    obtain ⟨⟨v, u⟩, hr, rfl⟩ := Res.map_eq_ok (ofRes h)
    exact .same (push _ (regRead_sameFifos (by simp) hr))

/-! ### A turn of one atomic step of the running context -/

/-- What the step from `s` to `t` does to UART `i`'s FIFOs, with the access of `UDATA` that it is. -/
inductive StepFifos (i : Uid) (s t : State) : Prop
  | same (h : SameFifos i s t)
  | push {v : Word} (hw : WritesUdata s i v) (h : TxPushed i (lowByte v) s t)
  | pop {b : Byte} (hr : ReadsUdata s t i b) (h : RxPopped i b s t)

/-- The step of the frame that comes next is the access of `UDATA` that the frame is. -/
theorem FrameFifos.stepFifos {i : Uid} {f : Frame} {s u t : State} (h : FrameFifos i f u t) (hu : u.uart = s.uart)
    (hh : u.history = s.history) (hnext : NextFrame s f u.cur.todo) : StepFifos i s t := by
  cases h with
  | same h => exact .same ⟨hh ▸ h.wired, hh ▸ h.received, hu ▸ h.tx, hu ▸ h.rx⟩
  | push hf h =>
    subst hf
    exact .push (.inr ⟨_, hnext⟩) ⟨hh ▸ h.wired, hh ▸ h.received, hu ▸ h.tx, hu ▸ h.rx⟩
  | pop hf h htodo =>
    subst hf
    exact .pop (.inr (.inl ⟨_, _, hnext, htodo⟩)) ⟨hh ▸ h.wired, hh ▸ h.received, hu ▸ h.tx, hu ▸ h.rx⟩
  | isrPop hf h htodo =>
    subst hf
    exact .pop (.inr (.inr ⟨_, _, hnext, htodo⟩)) ⟨hh ▸ h.wired, hh ▸ h.received, hu ▸ h.tx, hu ▸ h.rx⟩

/-- With no further steps in its slice, a burst is one atomic step. -/
theorem atomic_of_burst {s t : State} (hs : s.slice = 0) (h : burst s = .next t) :
    atomic s = .go t ∨ atomic s = .rest t := by
  unfold burst at h
  split at h
  · next u hu => rw [hs] at h; cases h; exact .inl hu
  · next u hu => cases h; exact .inr hu
  · cases h
  · cases h

theorem burst_fifos {i : Uid} {s t : State} (hs : s.slice = 0) (h : burst s = .next t) : StepFifos i s t := by
  have ha := atomic_of_burst hs h
  cases htodo : s.cur.todo with
  | nil =>
    simp only [atomic, htodo] at ha
    rcases ha with ha | ha <;> cases ha
    exact .same (.refl i s)
  | cons f fs =>
    rw [atomic_cons htodo] at ha
    exact (frame_fifos ha).stepFifos (u := s.setTodo fs) rfl rfl (.inl htodo)

/-- After a callback's end the ISR's next frame is what follows the callback. -/
theorem callbackEnd_fifos {i : Uid} {s t : State} (hs : s.slice = 0) (ha : activity s = .callbackEnd)
    (h : burst s.leaveCallback = .next t) : StepFifos i s t := by
  have hat := atomic_of_burst (s := s.leaveCallback) hs h
  cases htodo : s.cur.todo.tail with
  | nil =>
    have hnil : s.leaveCallback.cur.todo = [] := htodo
    simp only [atomic, hnil] at hat
    rcases hat with hat | hat <;> cases hat
    exact .same (.of_eq rfl rfl)
  | cons f fs =>
    rw [atomic_cons (s := s.leaveCallback) htodo] at hat
    exact (frame_fifos hat).stepFifos (u := s.leaveCallback.setTodo fs) rfl rfl (.inr ⟨ha, htodo⟩)

theorem readForm_udata (i : Uid) :
    (Reg.udata i).readForm = if i = .zero then .mmioReadUdata0 else .mmioReadUdata1 := by
  cases i <;> rfl

theorem writeForm_udata (i : Uid) (v : Word) :
    (Reg.udata i).writeForm v = if i = .zero then .mmioWriteUdata0 v else .mmioWriteUdata1 v := by
  cases i <;> rfl

/-- 30 R101: the command that is to run came out of the decoder. -/
theorem wellFormed_of_activity {s : State} {c : Instr} (h : activity s = .command c) : WellFormed c := by
  have fetched : ∀ {p : List Word} {e : Activity}, e ≠ .command c → fetchFrom s p e = .command c → WellFormed c := by
    intro p e he hf
    unfold fetchFrom at hf
    split at hf
    · exact absurd hf he
    · split at hf
      · next j rest hd => cases hf; exact (decodeIsCanonical _ _ _ hd).1
      · cases hf
  unfold activity at h
  split at h
  · exact fetched (e := .ended) (fun h => nomatch h) h
  · split at h
    · cases h
    · exact fetched (e := .callbackEnd) (fun h => nomatch h) h

/-- A well-formed command that reads a register by its address is the register's row. -/
theorem eq_readForm {c : Instr} {r : Reg} (hw : WellFormed c) (h : c = r.readForm ∨ c = .busRead r.addr) :
    c = r.readForm := by
  rcases h with h | rfl
  · exact h
  · have hnone : regAt r.addr = none := Option.isNone_iff_eq_none.mp hw
    rw [(regAt_addr r).1] at hnone
    cases hnone

theorem eq_writeForm {c : Instr} {r : Reg} {v : Word} (hw : WellFormed c)
    (h : c = r.writeForm v ∨ c = .busWrite r.addr v) : c = r.writeForm v := by
  rcases h with h | rfl
  · exact h
  · have hnone : regAt r.addr = none := Option.isNone_iff_eq_none.mp hw
    rw [(regAt_addr r).1] at hnone
    cases hnone

/-- A command's first step accesses `UDATA` only where the command is the row of it. -/
theorem firstStep_fifos {i : Uid} {c : Instr} {s u : State} (hc : AtCommand s c) (h : FirstStep c s u)
    (fs : List Frame) : StepFifos i s (u.push fs) := by
  have hw := wellFormed_of_activity hc.2
  have same : SameFifos i s u → StepFifos i s (u.push fs) := fun h => .same ⟨h.wired, h.received, h.tx, h.rx⟩
  cases h
  case readData h => exact same (regRead_sameFifos (by simp) h)
  case read r v u h hi =>
    rcases regRead_fifos (i := i) h with hs | ⟨rfl, b, rfl, hp⟩
    · exact same ⟨hs.wired, hs.received, hs.tx, hs.rx⟩
    · rw [eq_readForm hw hi, readForm_udata] at hc
      exact .pop (.inl ⟨hc, rfl⟩) ⟨hp.wired, hp.received, hp.tx, hp.rx⟩
  case writeGpio r v hr h => exact same (regWrite_sameFifos (by rintro rfl; cases hr) h)
  case write r v hi h =>
    rcases regWrite_fifos (i := i) h with hs | ⟨rfl, hp⟩
    · exact same hs
    · rw [eq_writeForm hw hi, writeForm_udata] at hc
      exact .push (.inl hc) ⟨hp.wired, hp.received, hp.tx, hp.rx⟩
  case masks a b => exact same (.of_eq (State.setMasks_uart s a b) (State.setMasks_history s a b))
  case rxCb j h => exact same (.setUart i j rfl rfl)
  case txCb j h => exact same (.setUart i j rfl rfl)
  all_goals exact same (.of_eq rfl rfl)

/-- The frame that a command begins with leaves the FIFOs alone. -/
theorem opens_fifos {i : Uid} {fs : List Frame} {s t : State} (hs : s.slice = 0) (ho : Opens fs)
    (h : burst (s.push fs) = .next t) : SameFifos i s t := by
  have same : ∀ {f : Frame} {gs : List Frame}, burst (s.push (f :: gs)) = .next t →
      (f.opens = true ∨ ∃ op n ret out, f = .finish op n ret out) → SameFifos i s t := by
    intro f gs h hf
    have ha := atomic_of_burst (s := s.push (f :: gs)) hs h
    rw [atomic_push] at ha
    cases frame_fifos (i := i) ha with
    | same h => exact ⟨h.wired, h.received, h.tx, h.rx⟩
    | push hf' h => subst hf'; simp [Frame.opens] at hf
    | pop hf' h => subst hf'; simp [Frame.opens] at hf
    | isrPop hf' h => subst hf'; simp [Frame.opens] at hf
  cases ho with
  | finish op n ret out => exact same h (.inr ⟨op, n, ret, out, rfl⟩)
  | access gs hf => exact same h (.inl hf)

theorem exec_fifos {i : Uid} {c : Instr} {s t : State} (hs : s.slice = 0) (hc : activity s = .command c)
    (h : exec c s = .next t) : StepFifos i s t := by
  cases hb : s.atStart with
  | true =>
    obtain ⟨u, op, n, ret, out, hu, rfl⟩ | ⟨fs, hopens, -, ht⟩ := exec_eq_next hb h
    · rw [hs]
      exact firstStep_fifos ⟨hb, hc⟩ hu _
    · exact .same (opens_fifos hs hopens ht)
  | false =>
    obtain ⟨x, hx, -⟩ := exec_operates c s
    rw [hx, operation_resumes hb] at h
    exact burst_fifos hs h

theorem runContext_fifos {i : Uid} {s t : State} (hs : s.slice = 0) (h : runContext s = .next t) :
    StepFifos i s t := by
  obtain ⟨c, hc, hu⟩ | hu | ⟨ha, hu⟩ | ⟨k, rfl⟩ | ⟨r, rfl⟩ := runContext_eq_next h
  · exact exec_fifos hs hc hu
  · exact burst_fifos hs hu
  · exact callbackEnd_fifos hs ha hu
  · exact .same (.of_event (e := .fault k) trivial rfl rfl)
  · exact .same (.of_event (e := .refused r) trivial rfl rfl)

/-! ### Any turn -/

/-- The bytes sent, followed by those to be sent, have grown at their end only. -/
def TxInOrder (i : Uid) (s t : State) : Prop :=
  ∃ new, wired i t.history ++ (t.uart.get i).txfifo = wired i s.history ++ (s.uart.get i).txfifo ++ new

/-- New bytes have come after those received, and bytes have been taken off the front of the FIFO. -/
def RxInOrder (i : Uid) (s t : State) : Prop :=
  ∃ new taken, received i t.history = received i s.history ++ new ∧
    (s.uart.get i).rxfifo ++ new = taken ++ (t.uart.get i).rxfifo

/-- The bytes are in order on both sides. -/
def InOrder (i : Uid) (s t : State) : Prop := TxInOrder i s t ∧ RxInOrder i s t

namespace InOrder

variable {i : Uid} {s t u : State}

theorem refl (i : Uid) (s : State) : InOrder i s s := ⟨⟨[], by simp⟩, [], [], by simp, by simp⟩

theorem same (h : InOrder i s t) (hu : SameFifos i t u) : InOrder i s u := by
  obtain ⟨⟨new, htx⟩, new', taken, hrec, hrx⟩ := h
  exact ⟨⟨new, by rw [hu.wired, hu.tx, htx]⟩, new', taken, by rw [hu.received, hrec], by rw [hu.rx, hrx]⟩

theorem txPushed {b : Byte} (h : InOrder i s t) (hu : TxPushed i b t u) : InOrder i s u := by
  obtain ⟨⟨new, htx⟩, new', taken, hrec, hrx⟩ := h
  exact ⟨⟨new ++ [b], by rw [hu.wired, hu.tx, ← List.append_assoc, htx, List.append_assoc]⟩, new', taken,
    by rw [hu.received, hrec], by rw [hu.rx, hrx]⟩

theorem rxPopped {b : Byte} (h : InOrder i s t) (hu : RxPopped i b t u) : InOrder i s u := by
  obtain ⟨⟨new, htx⟩, new', taken, hrec, hrx⟩ := h
  exact ⟨⟨new, by rw [hu.wired, hu.tx, htx]⟩, new', taken ++ [b], by rw [hu.received, hrec],
    by rw [hrx, hu.rx, List.append_assoc, List.singleton_append]⟩

end InOrder

section LineAgents

variable {i j : Uid} {s : State} {b : Byte}

/-- 44 R298: the serializer's byte is the head of the transmit FIFO. -/
theorem wireTx_fifos {rest : List Byte} (hb : (s.uart.get j).txfifo = b :: rest) :
    let t := (s.setUart j { s.uart.get j with txfifo := rest }).emit (.wireTx j b)
    wired i t.history ++ (t.uart.get i).txfifo = wired i s.history ++ (s.uart.get i).txfifo ∧
      received i t.history = received i s.history ∧ (t.uart.get i).rxfifo = (s.uart.get i).rxfifo := by
  refine ⟨?_, received_wireTx j b, ?_⟩
  · simp only [State.emit_history, State.setUart_history, State.emit_uart, State.setUart_uart, Pair.get_set,
      wired_wireTx]
    by_cases hij : i = j
    · subst hij; simp [hb]
    · simp [hij, Ne.symm hij]
  · simp only [State.emit_uart, State.setUart_uart, Pair.get_set]
    split
    · next hij => rw [hij]
    · rfl

/-- 44 R299: the receive line's byte is the last of the receive FIFO. -/
theorem wireRx_fifos :
    let t := (s.setUart j { s.uart.get j with rxfifo := (s.uart.get j).rxfifo ++ [b] }).emit (.wireRx j b)
    wired i t.history = wired i s.history ∧ (t.uart.get i).txfifo = (s.uart.get i).txfifo ∧
      ∃ new, received i t.history = received i s.history ++ new ∧
        (t.uart.get i).rxfifo = (s.uart.get i).rxfifo ++ new := by
  refine ⟨wired_wireRx j b, ?_, if j = i then [b] else [], received_wireRx j b, ?_⟩
  · simp only [State.emit_uart, State.setUart_uart, Pair.get_set]
    split
    · next hij => rw [hij]
    · rfl
  · simp only [State.emit_uart, State.setUart_uart, Pair.get_set]
    by_cases hij : i = j
    · subst hij; simp
    · simp [hij, Ne.symm hij]

end LineAgents

/-- Every step keeps the bytes in order. -/
theorem inOrder_stepClosed (i : Uid) (s₀ : State) : StepClosed (InOrder i s₀) := by
  constructor
  case toRunClosed =>
    constructor
    case complete => intro s op n ret out h; exact h.same (.of_event (e := .done _ _ _ _ _) trivial rfl rfl)
    case note => intro s k v h; exact h.same (.of_eq (by simp) (by simp))
    case clear => intro s h; exact h.same (.of_eq (by simp) (by simp))
    case masks => intro s a b h; exact h.same (.of_eq (by simp) (by simp))
    case errFlags => intro s j h; exact h.same (.setUart i j rfl rfl)
    case ucon => intro s j v h; exact h.same (.setUart i j rfl rfl)
    case rxThr => intro s j v h; exact h.same (.setUart i j rfl rfl)
    case txThr => intro s j v h; exact h.same (.setUart i j rfl rfl)
    case ubr => intro s j a b h; exact h.same (.setUart i j rfl rfl)
    case rxCb => intro s j v h; exact h.same (.setUart i j rfl rfl)
    case txCb => intro s j v h; exact h.same (.setUart i j rfl rfl)
    case register => intro s j name h; exact h.same (.setUart_emit i j (e := .registered j name) trivial rfl rfl)
    case rxPop =>
      intro s j b rest hb h
      by_cases hij : i = j
      · subst hij; exact h.rxPopped (b := b) ⟨rfl, rfl, by simp, by simp [hb]⟩
      · exact h.same (.setUart_of_ne hij _)
    case txPush =>
      intro s j b _ h
      by_cases hij : i = j
      · subst hij; exact h.txPushed (b := b) ⟨rfl, rfl, by simp, by simp⟩
      · exact h.same (.setUart_of_ne hij _)
    case invoke => intro s j d n fs h; exact h.same (.of_event (e := .callbackInvoked j d n) trivial rfl rfl)
    case leave => intro s h; exact h.same (.interruptReturn i s)
    all_goals
      intros
      exact InOrder.same ‹_› (.of_eq rfl rfl)
  case enter => intro s src j _ h; exact h.same (.of_event (e := .irqEnter src) trivial rfl rfl)
  case wireTx =>
    rintro s j b rest hb ⟨⟨new, htx⟩, new', taken, hrec, hrx⟩
    obtain ⟨hsent, hrec', hrx'⟩ := wireTx_fifos (i := i) hb
    exact ⟨⟨new, hsent.trans htx⟩, new', taken, hrec'.trans hrec, by rw [hrx', hrx]⟩
  case wireRx =>
    rintro s j b _ ⟨⟨new, htx⟩, new', taken, hrec, hrx⟩
    obtain ⟨hw, htx', more, hrec', hrx'⟩ := wireRx_fifos (i := i) (j := j) (s := s) (b := b)
    refine ⟨⟨new, by rw [hw, htx', htx]⟩, new' ++ more, taken, ?_, ?_⟩
    · rw [hrec', hrec, List.append_assoc]
    · rw [hrx', ← List.append_assoc, hrx, List.append_assoc]
  case wireRxLost => intro s j b h; exact h.same (.setUart_emit i j (e := .wireRxLost j b) trivial rfl rfl)
  case lineError => intro s j f h; exact h.same (.setUart_emit i j (e := .lineError j f) trivial rfl rfl)
  case fault => intro s k h; exact h.same (.of_event (e := .fault k) trivial rfl rfl)
  case refusal => intro s r h; exact h.same (.of_event (e := .refused r) trivial rfl rfl)
  all_goals
    intros
    exact InOrder.same ‹_› (.of_eq rfl rfl)

/-! ### An atomic turn of any agent -/

/-- The bytes are in order, and what is put into the transmit FIFO or taken off the receive FIFO is so by an access of
`UDATA`. -/
def ByUdata (i : Uid) (s t : State) : Prop :=
  (∃ new, wired i t.history ++ (t.uart.get i).txfifo = wired i s.history ++ (s.uart.get i).txfifo ++ new ∧
    (new = [] ∨ ∃ v, new = [v.extractLsb' 0 8] ∧ WritesUdata s i v)) ∧
  ∃ new taken, received i t.history = received i s.history ++ new ∧
    (s.uart.get i).rxfifo ++ new = taken ++ (t.uart.get i).rxfifo ∧
    (taken = [] ∨ ∃ b, taken = [b] ∧ ReadsUdata s t i b)

section AtomicTurn

variable {i : Uid} {s t : State}

/-- A step of the wire puts nothing into the transmit FIFO and takes nothing off the receive FIFO. -/
theorem ByUdata.of_wire
    (htx : wired i t.history ++ (t.uart.get i).txfifo = wired i s.history ++ (s.uart.get i).txfifo)
    (hrx : ∃ new, received i t.history = received i s.history ++ new ∧
      (t.uart.get i).rxfifo = (s.uart.get i).rxfifo ++ new) : ByUdata i s t := by
  obtain ⟨new, hrec, hrx⟩ := hrx
  exact ⟨⟨[], by rw [htx, List.append_nil], .inl rfl⟩, new, [], hrec, by rw [hrx, List.nil_append], .inl rfl⟩

theorem SameFifos.byUdata (h : SameFifos i s t) : ByUdata i s t :=
  .of_wire (by rw [h.wired, h.tx]) ⟨[], by rw [h.received, List.append_nil], by rw [h.rx, List.append_nil]⟩

theorem StepFifos.byUdata (h : StepFifos i s t) : ByUdata i s t := by
  cases h with
  | same h => exact h.byUdata
  | @push v hw h =>
    refine ⟨⟨[lowByte v], by rw [h.wired, h.tx, List.append_assoc], .inr ⟨v, rfl, hw⟩⟩, [], [], ?_, ?_, .inl rfl⟩
    · rw [h.received, List.append_nil]
    · rw [h.rx, List.append_nil, List.nil_append]
  | @pop b hr h =>
    refine ⟨⟨[], by rw [h.wired, h.tx, List.append_nil], .inl rfl⟩, [], [b], ?_, ?_, .inr ⟨b, rfl, hr⟩⟩
    · rw [h.received, List.append_nil]
    · rw [h.rx, List.append_nil, List.singleton_append]

theorem txsStep_byUdata (j : Uid) : ByUdata i s (txsStep s j) := by
  unfold txsStep
  split
  · exact (SameFifos.refl i s).byUdata
  · next b rest hb =>
    split
    · obtain ⟨hsent, hrec, hrx⟩ := wireTx_fifos (i := i) hb
      exact .of_wire hsent ⟨[], by rw [hrec, List.append_nil], by rw [hrx, List.append_nil]⟩
    · exact (SameFifos.refl i s).byUdata

theorem rxlStep_byUdata (j : Uid) (b : Byte) : ByUdata i s (rxlStep s j b) := by
  unfold rxlStep
  dsimp only
  split
  · split
    · obtain ⟨hw, htx, hnew⟩ := wireRx_fifos (i := i) (j := j) (s := s) (b := b)
      exact .of_wire (by rw [hw, htx]) hnew
    · refine SameFifos.byUdata ?_
      exact .setUart_emit i j (e := .wireRxLost j b) trivial rfl rfl
  · exact (SameFifos.refl i s).byUdata

theorem lerrStep_byUdata (j : Uid) (f : LineErrors) : ByUdata i s (lerrStep s j f) := by
  unfold lerrStep
  dsimp only
  split
  · refine SameFifos.byUdata ?_
    exact .setUart_emit i j (e := .lineError j f) trivial rfl rfl
  · exact (SameFifos.refl i s).byUdata

theorem coreStep_byUdata (src : Nat) : ByUdata i s (coreStep s src) := by
  have same : SameFifos i s (coreStep s src) := by
    unfold coreStep
    split
    · split
      · exact .refl i s
      · split
        · exact .of_event (e := .irqEnter src) trivial rfl rfl
        · exact .refl i s
    · split
      · exact .of_event (e := .fault .nestedInterrupt) trivial rfl rfl
      · exact .refl i s
  exact same.byUdata

theorem takeTurn_byUdata {turn : Turn} (hturn : ∀ n, turn = .run n → n = 0) (h : takeTurn turn s = .next t) :
    ByUdata i s t := by
  cases turn <;> simp only [takeTurn] at h
  case txs j => cases h; exact txsStep_byUdata j
  case rxl j b => cases h; exact rxlStep_byUdata j b
  case lerr j f => cases h; exact lerrStep_byUdata j f
  case core src =>
    split at h
    · exact absurd h (stopOutcome_ne_next s t)
    · cases h; exact coreStep_byUdata src
  case run n =>
    split at h
    · exact absurd h (stopOutcome_ne_next s t)
    · exact (runContext_fifos (s := { s with slice := n }) (hturn n rfl) h).byUdata

theorem step_byUdata (ha : AtomicTurn s) (h : step s = .next t) : ByUdata i s t := by
  obtain ⟨turn, ts, hsched, hturn⟩ := ha
  unfold step at h
  split at h
  · cases h
    refine SameFifos.byUdata ?_
    exact .of_event (e := .refused .parameterConstraint) trivial rfl rfl
  · rw [hsched] at h
    exact takeTurn_byUdata (s := { s with sched := ts }) hturn h

end AtomicTurn

/-- Settles O58: every update of the machine keeps the bytes in order; a turn of one atomic step is an access of
`UDATA`, or leaves what it would change alone. -/
theorem hardwareFifosKeepOrder : Obligations.HardwareFifosKeepOrder := by
  intro s t i hs
  by_cases ha : AtomicTurn s
  · obtain ⟨⟨new, htx, hput⟩, new', taken, hrec, hrx, htaken⟩ := step_byUdata (i := i) ha hs
    exact ⟨⟨new, htx, fun _ => hput⟩, new', taken, hrec, hrx, fun _ => htaken⟩
  · obtain ⟨⟨new, htx⟩, new', taken, hrec, hrx⟩ := (inOrder_stepClosed i s).step hs (.refl i s)
    exact ⟨⟨new, htx, fun h => absurd h ha⟩, new', taken, hrec, hrx, fun h => absurd h ha⟩

end Sys2Proof.Machine
end

section
/-! PROOF. The step itself (10 R20, R21, 60 R412, R413, 70 R451): what a turn of each agent is, the command or the ISR
step that a turn of the running context takes, and the invariants at launch. -/

namespace Sys2Proof.Machine

/-! ### Launch (10 R50 to R58) -/

/-- The launch state meets every invariant, from a RAM in canonical form. -/
theorem invariants_launch (p : Params) (rp : ResetParams) (numCb numSrc : Nat) {ram : Mem}
    (hram : Mem.wf ram = true ∧ ∀ c ∈ ram, inRam c.1 = true) :
    let s := State.launch p rp numCb numSrc ram
    MemInv s ∧ BuffersInv s ∧ FifoInv s ∧ UartFlagsInv s ∧ ContextInv s ∧ PriorityInv s := by
  refine ⟨hram, fun b hb => ?buffers, fun i => ?fifos, fun i => ?flags, ⟨fun _ => rfl, fun _ => rfl⟩,
    fun e he => ?priorities⟩
  case buffers =>
    rw [State.eq_reset_of_mem_launch_cb hb]
    exact ⟨rfl, fun h => nomatch h⟩
  case fifos =>
    rw [State.launch_uart_get]
    exact ⟨Nat.zero_le _, Nat.zero_le _⟩
  case flags =>
    rw [State.launch_uart_get]
    exact ⟨rfl, rfl, rfl⟩
  case priorities =>
    rw [State.eq_reset_of_mem_launch_itc he]
    rfl

/-- Settles O7: reset is a launch with an empty RAM. -/
theorem invariantsAtLaunch : Obligations.InvariantsAtLaunch :=
  ⟨fun p rp numCb numSrc _ hram => invariants_launch p rp numCb numSrc hram,
    invariants_launch _ _ _ _ ⟨rfl, fun _ h => nomatch h⟩⟩

/-- 70 R451: the constraints on the parameters. -/
theorem launchOk_iff (s : State) : launchOk s = true ↔
    1 ≤ s.params.coreClockHz / 16 ∧ 4 ≤ s.cb.length ∧ (∀ i : Uid, s.params.uartIrqSrc.get i < s.itc.length) ∧
    s.params.uartIrqSrc.at0 ≠ s.params.uartIrqSrc.at1 ∧ 31 ≤ s.params.txFifoDepth ∧ s.params.txFifoDepth ≤ 63 ∧
    1 ≤ s.params.rxFifoDepth ∧ s.params.rxFifoDepth ≤ 63 ∧
    ∀ q ∈ s.params.uartPins.at0.toList, q ∉ s.params.uartPins.at1.toList := by
  have hsrc : (∀ i : Uid, s.params.uartIrqSrc.get i < s.itc.length) ↔
      s.params.uartIrqSrc.at0 < s.itc.length ∧ s.params.uartIrqSrc.at1 < s.itc.length :=
    ⟨fun h => ⟨h .zero, h .one⟩, fun ⟨h0, h1⟩ i => by cases i; exacts [h0, h1]⟩
  rw [hsrc]
  simp [launchOk, Config.baudClockShift, Nat.shiftRight_eq_div_pow, and_assoc]

/-- Settles O12: with one constraint broken the launch check fails, and the first step records it. -/
theorem badParametersAreRefused : Obligations.BadParametersAreRefused := by
  intro s hs hbad
  have hlaunch : launchOk s = false := by
    rw [← Bool.not_eq_true, launchOk_iff]
    rintro ⟨hclock, hcb, hsrc, hne, htx1, htx2, hrx1, hrx2, hpins⟩
    rcases hbad with h | h | ⟨i, h⟩ | h | h | h | h | h | ⟨p, h0, h1⟩
    · omega
    · omega
    · exact absurd (hsrc i) (by omega)
    · exact hne h
    · omega
    · omega
    · omega
    · omega
    · exact hpins p h0 h1
  rw [step, if_pos (by simp [launchRefused, hlaunch, hs])]
  simp [State.recordRefusal, hs]

/-! ### A turn that the schedule names -/

theorem step_sched {s : State} {turn : Turn} {ts : List Turn} (hl : launchRefused s = false)
    (ht : s.sched = turn :: ts) : step s = takeTurn turn { s with sched := ts } := by
  rw [step, if_neg (by simp [hl]), ht]

/-- Settles O11: a stopped machine answers a program's or the core's turn with the stop it has recorded. -/
theorem noProgramStepAfterAStop : Obligations.NoProgramStepAfterAStop := by
  intro s turn ts hl ht hturn
  have stops (o : Host.Outcome State Fault Refusal) (hstop : s.stopped = true) (ho : s.stopOutcome = o) :
      step s = o := by
    have hstop' : ({ s with sched := ts } : State).stopped = true := hstop
    rw [step_sched hl ht, ← ho]
    rcases hturn with ⟨n, rfl⟩ | ⟨src, rfl⟩
    · exact if_pos hstop'
    · exact if_pos hstop'
  exact ⟨fun k ks hf => stops _ (by simp [State.stopped, hf]) (by simp [State.stopOutcome, hf]),
    fun r rs hf hr => stops _ (by simp [State.stopped, hf, hr]) (by simp [State.stopOutcome, hf, hr])⟩

/-- Settles O13: a line agent's turn is its step, in every state. -/
theorem lineAgentSteps : Obligations.LineAgentSteps := by
  intro s ts i hl
  refine ⟨fun ht => ⟨fun b rest hen hfifo => ?send, fun hoff => ?noSend⟩,
    fun b ht => ⟨fun hen hroom => ?receive, fun hen hfull => ?lost, fun hoff => ?noReceive⟩,
    fun f ht => ⟨fun hen hf => ?error, fun hoff => ?noError⟩⟩
  all_goals rw [step_sched hl ht]; refine congrArg Host.Outcome.next ?_
  case send => simp only [txsStep, hfifo, hen, if_true]; rfl
  case noSend =>
    unfold txsStep
    split
    · rfl
    · next b rest hb =>
      have hb : (s.uart.get i).txfifo = b :: rest := hb
      refine if_neg fun hen => ?_
      simp [hb] at hoff
      simp [hoff] at hen
  case receive => simp only [rxlStep, hen, hroom, if_true]; rfl
  case lost => simp only [rxlStep, hen, if_neg hfull.not_gt, if_true]; rfl
  case noReceive => simp only [rxlStep, hoff, Bool.false_eq_true, if_false]
  case error =>
    have hf : (f.se || f.pe || f.fe) = true := by simpa [or_assoc] using hf
    simp only [lerrStep, hen, hf, Bool.and_self, if_true]
    rfl
  case noError =>
    have hoff : ((s.uart.get i).ucon.rxe && (f.se || f.pe || f.fe)) = false := by
      rcases hoff with h | ⟨h1, h2, h3⟩
      · simp [h]
      · simp [h1, h2, h3]
    simp only [lerrStep, hoff, Bool.false_eq_true, if_false]

/-! ### The core's turn (60 R420, R423) -/

theorem step_core {s : State} {src : Nat} {ts : List Turn} (hs : Running s) (ht : s.sched = .core src :: ts) :
    step s = .next (coreStep { s with sched := ts } src) := by
  have hgoes : ¬ ({ s with sched := ts } : State).stopped = true := hs.not_stopped
  obtain ⟨hlaunch, -⟩ := hs
  rw [step_sched hlaunch ht]
  exact if_neg hgoes

/-- A source beyond the table is not delivered. -/
theorem lt_length_of_delivers {s : State} {src : Nat} {i : Uid} (h : delivers s src = some i) : src < s.itc.length := by
  obtain ⟨e, he, -⟩ := (delivers_eq_some s src i).mp h
  exact (List.getElem?_eq_some_iff.mp he).1

theorem anyDeliverable_iff (s : State) : anyDeliverable s = true ↔ ∃ src i, delivers s src = some i := by
  simp only [anyDeliverable, List.any_eq_true, List.mem_range, deliverable, Option.isSome_iff_exists]
  constructor
  · rintro ⟨src, -, i, h⟩
    exact ⟨src, i, h⟩
  · rintro ⟨src, i, h⟩
    exact ⟨src, lt_length_of_delivers h, i, h⟩

theorem State.recordFault_first {s : State} (h : s.faults = []) (k : Fault) :
    s.recordFault k = { s with faults := [k], history := s.history ++ [.fault k] } := by
  simp [State.recordFault, h]

theorem State.recordRefusal_first {s : State} (h : s.refusals = []) (r : Refusal) :
    s.recordRefusal r = { s with refusals := [r], history := s.history ++ [.refused r] } := by
  simp [State.recordRefusal, h]

theorem coreStep_enter {s : State} {src : Nat} {i : Uid} (hctx : s.ctx = .fg) (hmask : s.cpu.i = false)
    (hdel : delivers s src = some i) : coreStep s src = s.takeInterrupt src i := by
  simp only [coreStep, hctx, hmask, hdel, Bool.false_eq_true, if_false]

theorem coreStep_undelivered {s : State} {src : Nat} (hctx : s.ctx = .fg) (hdel : delivers s src = none) :
    coreStep s src = s := by
  simp only [coreStep, hctx, hdel, ite_self]

theorem coreStep_nested {s : State} {q : Nat} (src : Nat) (hctx : s.ctx = .isr q) (hen : coreEnabled s = true) :
    coreStep s src = s.recordFault .nestedInterrupt := by
  simp only [coreStep, hctx, hen, if_true]

theorem coreStep_disabled {s : State} {q : Nat} (src : Nat) (hctx : s.ctx = .isr q) (hen : coreEnabled s = false) :
    coreStep s src = s := by
  simp only [coreStep, hctx, hen, Bool.false_eq_true, if_false]

/-- 60 R423: the core may take an interrupt while it does not mask them and a source is delivered. -/
theorem coreEnabled_iff (s : State) : coreEnabled s = true ↔ s.cpu.i = false ∧ ∃ src i, delivers s src = some i := by
  rw [← anyDeliverable_iff]
  simp [coreEnabled]

/-- Settles O50: the core's turn is its step, which looks at the context, the mask and the delivery. -/
theorem interruptEntry : Obligations.InterruptEntry := by
  intro s src ts hs ht
  rw [step_core hs ht]
  refine ⟨fun i hctx hmask hdel => congrArg _ ?enter, fun hctx hno => congrArg _ ?noEntry,
    fun q hctx hmask hdel => congrArg _ ?nested, fun q hctx hno => congrArg _ ?noFault⟩
  case enter => exact coreStep_enter (s := { s with sched := ts }) hctx hmask hdel
  case noEntry =>
    rcases hno with hmask | hdel
    · exact coreStep_masked src hctx hmask
    · exact coreStep_undelivered (s := { s with sched := ts }) hctx hdel
  case nested =>
    have hen : coreEnabled { s with sched := ts } = true := (coreEnabled_iff _).mpr ⟨hmask, hdel⟩
    obtain ⟨-, hfaults, -⟩ := hs
    rw [coreStep_nested (s := { s with sched := ts }) src hctx hen]
    exact State.recordFault_first (s := { s with sched := ts }) hfaults .nestedInterrupt
  case noFault =>
    refine coreStep_disabled (s := { s with sched := ts }) src hctx (Bool.eq_false_iff.mpr fun hen => ?_)
    obtain ⟨hi, src', i, hdel⟩ := (coreEnabled_iff _).mp hen
    rcases hno with hmask | hnone
    · exact absurd (hmask.symm.trans hi) (by decide)
    · exact nomatch (hnone src').symm.trans hdel

/-! ### The program's turn (10 R21, 45 R350) -/

/-- A command that the running context has to do is executed, and a stop recorded. -/
theorem runContext_command {s : State} {i : Instr} (hf : s.faults = []) (hr : s.refusals = [])
    (ha : activity s = .command i) :
    (∀ t, exec i s = .next t → runContext s = .next t) ∧
    (∀ k, exec i s = .fault k → k ≠ .noStep → k ≠ .runEnded →
      runContext s = .next { s with faults := [k], history := s.history ++ [.fault k] }) ∧
    (exec i s = .fault .noStep → runContext s = .fault .noStep) ∧
    (∀ r, exec i s = .refused r →
      runContext s = .next { s with refusals := [r], history := s.history ++ [.refused r] }) := by
  have run : runContext s = settle s (exec i s) := by simp only [runContext, ha]
  simp only [run]
  refine ⟨fun t h => by rw [h, settle], fun k h h1 h2 => ?_, fun h => by rw [h]; rfl, fun r h => ?_⟩
  · have hk : k.recorded = true := by cases k <;> simp_all [Fault.recorded]
    simp [h, settle, hk, State.recordFault_first hf]
  · simp [h, settle, State.recordRefusal_first hr]

/-- No command decodes from the end of a program. -/
theorem ne_length_of_decode {p : List Word} {pc : Nat} {x : Instr × List Word} (h : decode (p.drop pc) = .ok x) :
    pc ≠ p.length := by
  rintro rfl
  rw [List.drop_length] at h
  cases h

theorem fetchFrom_command {s : State} {p rest : List Word} {i : Instr} (atEnd : Activity)
    (h : decode (p.drop s.cur.pc) = .ok (i, rest)) : fetchFrom s p atEnd = .command i := by
  rw [fetchFrom, if_neg (by simp [ne_length_of_decode h]), h]

theorem fetchFrom_end {s : State} {p : List Word} (atEnd : Activity) (hb : s.atStart = true)
    (hpc : s.cur.pc = p.length) : fetchFrom s p atEnd = atEnd := by
  rw [fetchFrom, if_pos (by simp [hb, hpc])]

theorem fetchFrom_refuse {s : State} {p : List Word} {e : DecodeError} (atEnd : Activity) (hpc : s.cur.pc ≠ p.length)
    (h : decode (p.drop s.cur.pc) = .error e) : fetchFrom s p atEnd = .refuse (refusalOf e) := by
  rw [fetchFrom, if_neg (by simp [hpc]), h]

theorem activity_fg {s : State} (hctx : s.ctx = .fg) : activity s = fetchFrom s s.params.program .ended := by
  simp only [activity, hctx]

theorem activity_callback {s : State} {src : Nat} {h : Word} {p : List Word} (hctx : s.ctx = .isr src)
    (hcb : callbackOf s.cur.todo = some h) (hfind : s.params.callbacks.find? (fun c => c.1 == h) = some (h, p)) :
    activity s = fetchFrom s p .callbackEnd := by
  have hp : s.callbackProgram h = p := by simp only [State.callbackProgram, hfind]
  simp only [activity, hctx, hcb, hp]

theorem atStart_of_todo {s : State} (h : s.cur.todo = []) : s.atStart = true := by
  simp only [State.atStart, h]

/-- Settles O8: the foreground's turn executes the command at its pc. -/
theorem stepRunsForegroundCommand : Obligations.StepRunsForegroundCommand := by
  intro s n ts i rest hs ht hctx hdec
  have ha : activity { s with sched := ts, slice := n } = .command i :=
    (activity_fg hctx).trans (fetchFrom_command _ hdec)
  rw [step_run hs ht]
  obtain ⟨-, hf, hr⟩ := hs
  exact runContext_command hf hr ha

/-- Settles O9: a callback's turn executes the command at its pc. -/
theorem stepRunsCallbackCommand : Obligations.StepRunsCallbackCommand := by
  intro s n ts i rest src h p hs ht hctx hcb hfind hdec
  have ha : activity { s with sched := ts, slice := n } = .command i :=
    (activity_callback hctx hcb hfind).trans (fetchFrom_command _ hdec)
  rw [step_run hs ht]
  obtain ⟨-, hf, hr⟩ := hs
  exact runContext_command hf hr ha

theorem runContext_ended {s : State} (h : activity s = .ended) : runContext s = .fault .runEnded := by
  simp only [runContext, h]
  rfl

theorem runContext_refuse {s : State} {r : Refusal} (h : activity s = .refuse r) :
    runContext s = .next (s.recordRefusal r) := by
  simp only [runContext, h, settle]

theorem runContext_callbackEnd {s : State} (h : activity s = .callbackEnd) :
    runContext s = settle s (burst s.leaveCallback) := by
  simp only [runContext, h]

/-- Settles O10: between two commands the foreground is at its program's end, or its turn decodes the words at its
pc. -/
theorem stepWithoutCommand : Obligations.StepWithoutCommand := by
  intro s n ts hs ht hctx htodo
  rw [step_run hs ht]
  refine ⟨fun hpc => ?ended, fun hpc er her hdec => ?refused⟩
  case ended =>
    exact runContext_ended ((activity_fg hctx).trans (fetchFrom_end _ (atStart_of_todo htodo) hpc))
  case refused =>
    have href : refusalOf er.1 = er.2 := by
      simp only [List.mem_cons, List.not_mem_nil, or_false] at her
      rcases her with rfl | rfl | rfl <;> rfl
    obtain ⟨-, -, hr⟩ := hs
    have ha : activity { s with sched := ts, slice := n } = .refuse er.2 :=
      href ▸ (activity_fg hctx).trans (fetchFrom_refuse _ hpc hdec)
    rw [runContext_refuse ha]
    exact congrArg _ (State.recordRefusal_first (s := { s with sched := ts, slice := n }) hr er.2)

/-- Settles O52: outside any callback the turn is the ISR's `invoke` step; at the end of a callback's program it is the
ISR's next step. -/
theorem callbackInvocation : Obligations.CallbackInvocation := by
  intro s n src ts h fs hs ht hctx hfs
  rw [step_run hs ht]
  refine ⟨fun i d htodo => ?invoke, fun p htodo hfind hpc t hburst => ?ended⟩
  case invoke =>
    have outside : callbackOf s.cur.todo = none := by rw [htodo]; exact hfs
    rw [runContext_isr (s := { s with sched := ts, slice := n }) hctx outside,
      burst_rest (atomic_cons (s := { s with sched := ts, slice := n }) htodo)]
    rfl
  case ended =>
    have inside : callbackOf s.cur.todo = some h := by rw [htodo]; rfl
    have start : s.atStart = true := by simp only [State.atStart, htodo]
    have left : ({ s with sched := ts, slice := n } : State).leaveCallback =
        { s with sched := ts, slice := n, cur := { s.cur with todo := fs } } := by
      simp only [State.leaveCallback, State.setTodo, htodo, List.tail_cons]
    rw [runContext_callbackEnd ((activity_callback (s := { s with sched := ts, slice := n }) hctx inside hfind).trans
      (fetchFrom_end _ start hpc)), left, hburst]
    rfl

/-! ### The driver's error returns (60 R410) -/

/-- Settles O40: an instance above 1, a null name or a null buffer ends the command in an error return before any
other check. -/
theorem uartErrorReturns : Obligations.UartErrorReturns := by
  intro s id a b hs
  have named (w : Word) (h : 1 < id.toNat ∨ w = 0) : uidOf id = none ∨ w = 0 := h.imp_left uidOf_eq_none
  refine ⟨fun h => exec_eq_failed hs ?init,
    fun h => exec_eq_failed hs (by simp only [exec, execUartSendByte, uidOf_eq_none h]),
    fun h => exec_eq_failed hs (by simp only [exec, execUartReceiveByte, uidOf_eq_none h]),
    fun h => exec_eq_failed hs ?send, fun h => exec_eq_failed hs ?receive⟩
  case init =>
    simp only [exec, execUartInit]
    cases hid : uidOf id <;> simp_all
  case send =>
    simp only [exec, execUartSend]
    cases hid : uidOf id <;> simp_all
  case receive =>
    simp only [exec, execUartReceive]
    cases hid : uidOf id <;> simp_all

end Sys2Proof.Machine
end

section
/-! PROOF. The function-select read-modify-write (41 R189, R190): the slots of a register word, what the two steps of
the change do and where they fault, and the two GPIO operations made of it. -/

namespace Sys2Proof.Machine

/-! ### Slots of a function-select word (30 R113) -/

theorem getLsbD_slotOf (v : Word) (j b : Nat) (hb : b < 2) : (slotOf v j).getLsbD b = v.getLsbD (2 * j + b) := by
  simp [slotOf, hb]

/-- A word is its sixteen slots. -/
theorem eq_of_slots {v w : Word} (h : ∀ j, j < 16 → slotOf v j = slotOf w j) : v = w := by
  refine BitVec.eq_of_getLsbD_eq fun b hb => ?_
  have hslot := congrArg (·.getLsbD (b % 2)) (h (b / 2) (by omega))
  simp only [getLsbD_slotOf _ _ _ (Nat.mod_lt b two_pos)] at hslot
  rwa [Nat.div_add_mod] at hslot

theorem slotOf_spreadSlots (sel : Nat → Bool) (code : BitVec 2) {j : Nat} (hj : j < 16) :
    slotOf (spreadSlots sel code) j = if sel j = true then code else 0 := by
  refine BitVec.eq_of_getLsbD_eq fun b hb => ?_
  have hbit : (spreadSlots sel code).getLsbD (2 * j + b) = (sel j && code.getLsbD b) := by
    have h := wordOfBits_bit (fun b => sel (b / 2) && code.getLsbD (b % 2)) (2 * j + b) (by omega)
    rwa [show (2 * j + b) / 2 = j by omega, show (2 * j + b) % 2 = b by omega] at h
  rw [getLsbD_slotOf _ _ _ hb, hbit]
  cases sel j <;> simp

/-- The slots of a read-modify-write: `code` where `sel` chooses, the old value elsewhere. -/
theorem slotOf_replaced (old : Word) (sel : Nat → Bool) (code : BitVec 2) {j : Nat} (hj : j < 16) :
    slotOf ((old &&& ~~~spreadSlots sel 3#2) ||| spreadSlots sel code) j =
      if sel j = true then code else slotOf old j := by
  have split (a b c : Word) : slotOf ((a &&& ~~~b) ||| c) j = (slotOf a j &&& ~~~slotOf b j) ||| slotOf c j := by
    refine BitVec.eq_of_getLsbD_eq fun b hb => ?_
    simp only [BitVec.getLsbD_or, BitVec.getLsbD_and, BitVec.getLsbD_not, getLsbD_slotOf _ _ _ hb, hb,
      show 2 * j + b < 32 by omega]
  rw [split, slotOf_spreadSlots _ _ hj, slotOf_spreadSlots _ _ hj]
  generalize slotOf old j = o
  cases sel j
  · have keep : o &&& 3#2 = o := BitVec.and_allOnes
    simp [keep]
  · revert o code
    decide

theorem spreadSlots_eq_zero_iff (sel : Nat → Bool) : spreadSlots sel 3#2 = 0 ↔ ∀ j, j < 16 → sel j = false := by
  have zero (j : Nat) : slotOf 0 j = 0 := by
    refine BitVec.eq_of_getLsbD_eq fun b hb => ?_
    rw [getLsbD_slotOf _ _ _ hb]
    simp
  constructor
  · intro h j hj
    have hslot := slotOf_spreadSlots sel 3#2 hj
    rw [h, zero] at hslot
    cases hsel : sel j
    · rfl
    · rw [hsel] at hslot
      exact absurd hslot (by decide)
  · refine fun h => eq_of_slots fun j hj => ?_
    rw [slotOf_spreadSlots _ _ hj, h j hj, zero]
    rfl

theorem pinFunc_eq_slot (g : Gpio) (p : Pin) : pinFunc g p.val = slotOf (g.funcSel.get (Pin.funcReg p)) (Pin.slot p) :=
  (funcOfPin_eq_pinFunc g p).symm

/-- 41 R190: a pin's mask and value are the one slot's. -/
theorem slotOf_pin_replaced (old : Word) (p : Pin) (code : BitVec 2) {j : Nat} (hj : j < 16) :
    slotOf ((old &&& ~~~pinFuncMask p) ||| pinFuncValue p code) j = if j = Pin.slot p then code else slotOf old j := by
  have hslot : Pin.slot p < 16 := Nat.mod_lt _ (by decide)
  have spread (c : BitVec 2) : c.setWidth 32 <<< (2 * Pin.slot p) = spreadSlots (fun j => j == Pin.slot p) c := by
    refine BitVec.eq_of_getLsbD_eq fun b hb => ?_
    have h := wordOfBits_bit (fun b => b / 2 == Pin.slot p && c.getLsbD (b % 2)) b hb
    refine Eq.trans ?_ h.symm
    by_cases heq : b / 2 = Pin.slot p
    · have hlt : ¬ b < 2 * Pin.slot p := by omega
      have hsub : b - 2 * Pin.slot p = b % 2 := by omega
      simp [heq, hb, hlt, hsub]
    · simp only [BitVec.getLsbD_shiftLeft, hb, decide_true, Bool.true_and, beq_false_of_ne heq, Bool.false_and]
      by_cases hlt : b < 2 * Pin.slot p
      · simp [hlt]
      · simp [BitVec.getLsbD_of_ge c (b - 2 * Pin.slot p) (by omega)]
  have hmask : pinFuncMask p = spreadSlots (fun j => j == Pin.slot p) 3#2 := spread 3#2
  rw [hmask, show pinFuncValue p code = _ from spread code, slotOf_replaced _ _ _ hj]
  simp

@[simp] theorem funcOf_setWidth (c : BitVec 2) : funcOf (c.setWidth 32) = some c := by
  revert c
  decide

theorem funcOf_eq_none {w : Word} (h : 3 < w.toNat) : funcOf w = none := if_neg (by omega)

/-! ### Running frames -/

/-- A burst whose first step goes on is a run of one step more. -/
theorem burst_eq_goOn {s s' : State} (h : atomic s = .go s') : burst s = .next (goOn (s.slice + 1) s) := by
  simp only [burst, goOn_succ, h]

/-- With a step left, a run up to the completion with `ret` completes. -/
theorem goOn_returned (n : Nat) (s : State) (op : Byte) (k : Nat) (ret : Word) :
    goOn (n + 1) (s.push [.finish op k (some ret) none]) = s.returned op k ret := by
  rw [goOn_finish, State.complete_ret]

/-! ### The read-modify-write (41 R189, R190) -/

/-- What a read-modify-write of function-select register `k` leaves when it writes `v`. -/
def State.setFuncSel (s : State) (k : Four) (v : Word) : State :=
  { s with
    gpio := { s.gpio with funcSel := s.gpio.funcSel.set k v }
    fselPending := if s.ctx = .fg then none else s.fselPending }

theorem Race.notePending {s : State} {k j : Four} {old : Word} {fs : List Frame} :
    Race ((s.notePending k old).push fs) j ↔ Race s j := by
  unfold State.notePending
  split
  · next hfg => exact ⟨fun h => absurd hfg h.1, fun h => absurd hfg h.1⟩
  · exact Iff.rfl

theorem MuxTooEarly.notePending {s : State} {k j : Four} {old v : Word} {fs : List Frame} :
    MuxTooEarly ((s.notePending k old).push fs) j v ↔ MuxTooEarly s j v := by
  unfold State.notePending
  split <;> rfl

section ReadModifyWrite

variable {s : State} {k : Four} {fm fv : Word} {fs : List Frame}

theorem State.notePending_mode (old : Word) (gs : List Frame) : ((s.notePending k old).push gs).mode = s.mode := by
  simp only [State.mode, State.push_ctx, State.push_params, State.notePending_ctx, State.notePending_params]

theorem State.notePending_push (old : Word) : (s.push fs).notePending k old = (s.notePending k old).push fs := by
  unfold State.notePending
  by_cases hc : s.ctx = .fg
  · rw [if_pos hc, if_pos (show (s.push fs).ctx = .fg from hc)]
    rfl
  · rw [if_neg hc, if_neg (show ¬ (s.push fs).ctx = .fg from hc)]

/-- The read goes on with the write of the changed word. -/
theorem frame_funcRead (hm : s.mode = .privileged) : frame (.funcRead k fm fv) (s.push fs) =
    .go ((s.notePending k (s.gpio.funcSel.get k)).push
      (.funcWrite k ((s.gpio.funcSel.get k &&& ~~~fm) ||| fv) :: fs)) := by
  simp only [frame, regRead_privileged (s := s.push fs) _ hm, readRule, Res.map_ok, Micro.ofRes,
    State.notePending_push, State.push_gpio]
  rfl

/-- The write after the read stores the word and forgets the read. -/
theorem State.clearPending_written {v old : Word} :
    State.clearPending { (s.notePending k old).push fs with
      gpio := { s.gpio with funcSel := s.gpio.funcSel.set k v } } = (s.setFuncSel k v).push fs := by
  unfold State.notePending State.clearPending State.setFuncSel
  by_cases hc : s.ctx = .fg
  · simp only [if_pos hc]
    exact if_pos hc
  · simp only [if_neg hc]
    exact if_neg hc

theorem frame_funcWrite {v : Word} (old : Word) (hm : s.mode = .privileged) (hr : ¬ Race s k)
    (hx : ¬ MuxTooEarly s k v) :
    frame (.funcWrite k v) ((s.notePending k old).push fs) = .go ((s.setFuncSel k v).push fs) := by
  have hrace : ¬ funcSelRace ((s.notePending k old).push fs) k = true := by
    rwa [funcSelRace_iff, Race.notePending]
  have hmux : ¬ muxBeforeEnable ((s.notePending k old).push fs) k v = true := by
    rwa [muxBeforeEnable_iff, MuxTooEarly.notePending]
  simp only [frame, regWrite_privileged _ _ ((State.notePending_mode old fs).trans hm), writeRule, funcSelWrite,
    if_neg hrace, if_neg hmux, Res.map_ok, Micro.ofRes, ← State.clearPending_written (old := old)]
  simp only [State.push_gpio, State.notePending_gpio]

theorem frame_funcWrite_race {v : Word} (old : Word) (hm : s.mode = .privileged) (hr : Race s k) :
    frame (.funcWrite k v) ((s.notePending k old).push fs) = .fault .funcSelRace := by
  have hrace : funcSelRace ((s.notePending k old).push fs) k = true := by
    rwa [funcSelRace_iff, Race.notePending]
  simp only [frame, regWrite_privileged _ _ ((State.notePending_mode old fs).trans hm), writeRule, funcSelWrite,
    if_pos hrace, Res.map_fault, Micro.ofRes]

theorem frame_funcWrite_early {v : Word} (old : Word) (hm : s.mode = .privileged) (hr : ¬ Race s k)
    (hx : MuxTooEarly s k v) :
    frame (.funcWrite k v) ((s.notePending k old).push fs) = .fault .pinMuxBeforeEnable := by
  have hrace : ¬ funcSelRace ((s.notePending k old).push fs) k = true := by
    rwa [funcSelRace_iff, Race.notePending]
  have hmux : muxBeforeEnable ((s.notePending k old).push fs) k v = true := by
    rwa [muxBeforeEnable_iff, MuxTooEarly.notePending]
  simp only [frame, regWrite_privileged _ _ ((State.notePending_mode old fs).trans hm), writeRule, funcSelWrite,
    if_neg hrace, if_pos hmux, Res.map_fault, Micro.ofRes]

/-- An undisturbed read-modify-write takes two steps. -/
theorem goOn_setFuncSel (n : Nat) (hm : s.mode = .privileged) (hr : ¬ Race s k)
    (hx : ¬ MuxTooEarly s k ((s.gpio.funcSel.get k &&& ~~~fm) ||| fv)) :
    goOn (n + 2) (s.push (.funcRead k fm fv :: fs)) =
      goOn n ((s.setFuncSel k ((s.gpio.funcSel.get k &&& ~~~fm) ||| fv)).push fs) := by
  rw [goOn_go (frame_funcRead hm), goOn_go (frame_funcWrite _ hm hr hx)]

/-- `t` stands inside an operation whose next step faults, with the GPIO registers as `g`. -/
structure StopsAt (t : State) (g : Gpio) (e : Fault) : Prop where
  gpio : t.gpio = g
  inside : t.atStart = false
  faults : burst t = .fault e

/-- A run stops before a write that would fault. -/
theorem stopsAt_funcWrite {e : Fault} (n : Nat) (hm : s.mode = .privileged)
    (hf : frame (.funcWrite k ((s.gpio.funcSel.get k &&& ~~~fm) ||| fv))
      ((s.notePending k (s.gpio.funcSel.get k)).push fs) = .fault e) :
    StopsAt (goOn (n + 1) (s.push (.funcRead k fm fv :: fs))) s.gpio e := by
  rw [goOn_go (frame_funcRead hm), goOn_before_fault hf]
  exact ⟨State.notePending_gpio .., rfl, burst_fault hf⟩

end ReadModifyWrite

section Stops

variable {s : State} {k : Four} {fm fv v : Word} {fs : List Frame} (n : Nat) (hm : s.mode = .privileged)
  (hv : (s.gpio.funcSel.get k &&& ~~~fm) ||| fv = v)

include hm

theorem stopsAt_race (hr : Race s k) : StopsAt (goOn (n + 1) (s.push (.funcRead k fm fv :: fs))) s.gpio .funcSelRace :=
  stopsAt_funcWrite n hm (frame_funcWrite_race _ hm hr)

include hv

theorem stopsAt_muxTooEarly (hr : ¬ Race s k) (hx : MuxTooEarly s k v) :
    StopsAt (goOn (n + 1) (s.push (.funcRead k fm fv :: fs))) s.gpio .pinMuxBeforeEnable :=
  stopsAt_funcWrite n hm (frame_funcWrite_early _ hm hr (hv ▸ hx))

end Stops

/-- An operation that stands before a fault meets it in its next step. -/
theorem StopsAt.exec {s t : State} {i : Instr} {g : Gpio} {e : Fault} {x : State → Res Start} (h : StopsAt t g e)
    (start : ∀ u, exec i u = operation u (x u)) (begins : exec i s = .next t) :
    ∃ t, Machine.exec i s = .next t ∧ t.gpio = g ∧ Machine.exec i t = .fault e := by
  obtain ⟨hg, hinside, hburst⟩ := h
  exact ⟨t, begins, hg, (start t).trans ((operation_resumes hinside).trans hburst)⟩

theorem StopsAt.exec_fault {s t : State} {i : Instr} {g : Gpio} {e : Fault} {x : State → Res Start}
    (h : StopsAt t g e) (start : ∀ u, Machine.exec i u = operation u (x u)) (begins : Machine.exec i s = .next t) :
    ∃ t, Machine.exec i s = .next t ∧ Machine.exec i t = .fault e := by
  obtain ⟨t, ht, -, hf⟩ := h.exec start begins
  exact ⟨t, ht, hf⟩

/-! ### Unprivileged operations (20 R95, 46 R390) -/

/-- An operation that begins with a register access faults. -/
theorem operation_opens_unprivileged {s : State} {f : Frame} (hb : s.atStart = true) (hm : s.mode = .unprivileged)
    (hf : f.opens = true) (fs : List Frame) : operation s (.ok (.go (f :: fs))) = .fault .unprivilegedMmio := by
  rw [operation_go hb]
  exact burst_fault (frame_opens_unprivileged (s := s.push fs) hm hf)

theorem operation_initialized_unprivileged {s : State} {i : Uid} {f : Frame} (hb : s.atStart = true)
    (hm : s.mode = .unprivileged) (hu : (s.uart.get i).ustate = .initialized) (hf : f.opens = true)
    (fs : List Frame) : operation s (initialized s i (f :: fs)) = .fault .unprivilegedMmio := by
  simp only [initialized, hu]
  exact operation_opens_unprivileged hb hm hf fs

theorem operation_source_unprivileged {s : State} {src : Nat} {e : ItcEntry} (hb : s.atStart = true)
    (hm : s.mode = .unprivileged) (he : s.itc[src]? = some e) (op : Byte) (n : Nat) (f : ItcEntry → ItcEntry) :
    operation s (oneStep op n 0 (withSource s src f)) = .fault .unprivilegedMmio := by
  rw [withSource_of_entry he, privileged, hm]
  exact operation_fault hb

/-- 30 R103: the numbers up to 2 name a handler. -/
theorem isrHandlerOf_eq_some {w : Word} (h : w.toNat ≤ 2) : ∃ handler, isrHandlerOf w = some handler := by
  obtain hw | hw | hw : w.toNat = 0 ∨ w.toNat = 1 ∨ w.toNat = 2 := by omega
  all_goals simp [isrHandlerOf, hw]

theorem exec_gpioSetPinFunc (s : State) (pin : Pin) (func : BitVec 2) :
    exec (.gpioSetPinFunc (BitVec.ofNat 32 pin.val) (func.setWidth 32)) s =
      operation s (.ok (.go (pinFuncFrames pin func ++ [.finish 0x0A 2 (some 0) none]))) := by
  simp only [exec, execGpioSetPinFunc, pinOf_ofNat, funcOf_setWidth]

theorem exec_gpioSetPortFunc (s : State) (n : Port) (func : BitVec 2) (mask : Word) :
    exec (.gpioSetPortFunc (BitVec.ofNat 32 n.toNat) (func.setWidth 32) mask) s =
      operation s (.ok (.go (halfFrames n func mask false ++
        (halfFrames n func mask true ++ [.finish 0x09 3 (some 0) none])))) := by
  simp only [exec, execGpioSetPortFunc, portOf_ofNat, funcOf_setWidth, List.append_assoc]

/-- 41 R189: a half with no pin of the mask is skipped. -/
abbrev skipsHalf (mask : Word) (high : Bool) : Prop := spreadSlots (halfSlots mask high) 3#2 = 0

theorem halfFrames_of_skips (n : Port) (func : BitVec 2) {mask : Word} {high : Bool} (h : skipsHalf mask high) :
    halfFrames n func mask high = [] := if_pos h

theorem halfFrames_of_not_skips (n : Port) (func : BitVec 2) {mask : Word} {high : Bool} (h : ¬ skipsHalf mask high) :
    halfFrames n func mask high = [.funcRead (halfReg n high) (spreadSlots (halfSlots mask high) 3#2)
      (spreadSlots (halfSlots mask high) func)] := if_neg h

theorem skipsHalf_iff (mask : Word) (high : Bool) :
    skipsHalf mask high ↔ ∀ j, j < 16 → halfSlots mask high j = false := spreadSlots_eq_zero_iff _

theorem skipsHalf_zero (high : Bool) : skipsHalf 0 high :=
  (skipsHalf_iff 0 high).mpr fun j _ => by simp [halfSlots, bitOf]

theorem ne_zero_of_not_skips {mask : Word} {high : Bool} (h : ¬ skipsHalf mask high) : mask ≠ 0 := by
  rintro rfl
  exact h (skipsHalf_zero high)

/-- A mask that is not 0 has a pin in one of the halves. -/
theorem not_skipsHalf_of_ne_zero {mask : Word} (h : mask ≠ 0) : ¬ skipsHalf mask false ∨ ¬ skipsHalf mask true := by
  rw [← not_and_or, skipsHalf_iff, skipsHalf_iff]
  rintro ⟨hlow, hhigh⟩
  refine h (BitVec.eq_of_getLsbD_eq fun b hb => ?_)
  refine Eq.trans ?_ BitVec.getLsbD_zero.symm
  by_cases hb16 : b < 16
  · exact hlow b hb16
  · have hbit := hhigh (b - 16) (by omega)
    rwa [halfSlots, if_pos rfl, show 16 + (b - 16) = b by omega] at hbit

/-- The first frame of the two halves, where the mask is not 0. -/
theorem halves_eq_funcRead (n : Port) (func : BitVec 2) {mask : Word} (h : mask ≠ 0) (fs : List Frame) :
    ∃ k fm fv gs, halfFrames n func mask false ++ (halfFrames n func mask true ++ fs) = .funcRead k fm fv :: gs := by
  by_cases hlow : skipsHalf mask false
  · have hhigh := (not_skipsHalf_of_ne_zero h).resolve_left (not_not.mpr hlow)
    rw [halfFrames_of_skips n func hlow, halfFrames_of_not_skips n func hhigh]
    exact ⟨_, _, _, _, rfl⟩
  · rw [halfFrames_of_not_skips n func hlow]
    exact ⟨_, _, _, _, rfl⟩

/-- Settles O24: each operation's first step is a register access or a controller call. -/
theorem unprivilegedOperationsFault : Obligations.UnprivilegedOperationsFault := by
  intro s n i pin mask w func reg hb hm
  refine ⟨fun hmask => ?portFunc, ?pinFunc, fun hu hname hreg => ?init,
    fun hu => ⟨?sendByte, ?receiveByte, fun hbuf => ⟨?send, ?receive⟩⟩, fun hw => ?controller⟩
  case portFunc =>
    obtain ⟨k, fm, fv, gs, hfs⟩ := halves_eq_funcRead n func hmask [.finish 0x09 3 (some 0) none]
    rw [exec_gpioSetPortFunc, hfs]
    exact operation_opens_unprivileged hb hm rfl _
  case pinFunc =>
    rw [exec_gpioSetPinFunc]
    exact operation_opens_unprivileged hb hm rfl _
  case init =>
    rw [exec_uartInit_uninitialized s i hu hname, hreg, Res.map_ok]
    exact operation_opens_unprivileged hb hm rfl _
  case sendByte => exact (exec_uartSendByte s i w).trans (operation_initialized_unprivileged hb hm hu rfl _)
  case receiveByte => exact (exec_uartReceiveByte s i).trans (operation_initialized_unprivileged hb hm hu rfl _)
  case send => exact (exec_uartSend s i hbuf w).trans (operation_initialized_unprivileged hb hm hu rfl _)
  case receive => exact (exec_uartReceive s i hbuf w).trans (operation_initialized_unprivileged hb hm hu rfl _)
  case controller =>
    have he : s.itc[w.toNat]? = some s.itc[w.toNat] := List.getElem?_eq_getElem hw
    refine ⟨?_, fun h hh => ?_, operation_source_unprivileged hb hm he _ _ _⟩
    · exact (congrArg (fun x => operation s (oneStep 0x40 2 0 x)) (itcSetPriority_zero he)).trans
        (operation_source_unprivileged hb hm he _ _ _)
    · obtain ⟨handler, hhandler⟩ := isrHandlerOf_eq_some hh
      simp only [exec, execItcSetHandler, if_pos hw, hhandler]
      exact operation_source_unprivileged hb hm he _ _ _

end Sys2Proof.Machine
end

section
/-! PROOF. The two operations of GPIO functions (41 R189, R190): a half of a port as one step of the operation's run,
what it leaves in each pin's slot, and the undisturbed and the stopped runs. -/

namespace Sys2Proof.Machine

/-- An operation that begins with a read-modify-write runs it with its slice. -/
theorem exec_begins_funcRead {s : State} {i : Instr} {k : Four} {fm fv : Word} {fs : List Frame}
    (hb : s.atStart = true) (hm : s.mode = .privileged)
    (hi : exec i s = operation s (.ok (.go (.funcRead k fm fv :: fs)))) :
    exec i s = .next (goOn (s.slice + 1) (s.push (.funcRead k fm fv :: fs))) := by
  rw [hi, operation_go hb]
  exact burst_eq_goOn (frame_funcRead hm)

/-- Settles O28: the operation is one read-modify-write of the pin's register and its completion. -/
theorem gpioSetPinFunction : Obligations.GpioSetPinFunction := by
  intro s hb hslice
  obtain ⟨m, hm2⟩ : ∃ m, s.slice = m + 2 := ⟨s.slice - 2, by omega⟩
  refine ⟨fun pin k func hk => ?_, fun pin func hbad => exec_eq_failed ⟨hb, by omega⟩ ?badArgument⟩
  case badArgument =>
    simp only [exec, execGpioSetPinFunc]
    rcases hbad with h | h
    · rw [pinOf_eq_none h]
    · rw [funcOf_eq_none h]
      cases pinOf pin <;> rfl
  obtain rfl : Pin.funcReg pin = k := (funcReg_eq_iff pin k).mpr hk.symm
  have start (u : State) := exec_gpioSetPinFunc u pin func
  have begins (hm : s.mode = .privileged) := exec_begins_funcRead hb hm (start s)
  refine ⟨fun hm hr hx => ?undisturbed, fun hm hr => (stopsAt_race _ hm hr).exec_fault start (begins hm),
    fun hm hr hx => (stopsAt_muxTooEarly _ hm rfl hr hx).exec_fault start (begins hm), fun hm => ?unprivileged⟩
  case undisturbed =>
    refine (begins hm).trans (congrArg _ ?_)
    have run := (goOn_setFuncSel (m + 1) hm hr hx).trans (goOn_returned m _ 0x0A 2 0)
    rwa [show m + 1 + 2 = s.slice + 1 by omega] at run
  case unprivileged => exact (start s).trans (operation_opens_unprivileged hb hm rfl _)

/-! ### A half of a port (41 R189) -/

/-- What `gpio.set_port_func` writes to the register of a half. -/
def newFunctions (g : Gpio) (n : Port) (func : BitVec 2) (mask : Word) (high : Bool) : Word :=
  (g.funcSel.get (halfReg n high) &&& ~~~spreadSlots (halfSlots mask high) 3#2) |||
    spreadSlots (halfSlots mask high) func

/-- What `gpio.set_port_func` leaves once it is done with a half. -/
def State.halfWritten (s : State) (n : Port) (func : BitVec 2) (mask : Word) (high : Bool) : State :=
  { s with
    gpio := { s.gpio with funcSel := s.gpio.funcSel.set (halfReg n high) (newFunctions s.gpio n func mask high) }
    fselPending := if skipsHalf mask high then s.fselPending else if s.ctx = .fg then none else s.fselPending }

theorem toNat_halfReg (n : Port) (high : Bool) : (halfReg n high).toNat = 2 * n.toNat + high.toNat := by
  cases n <;> cases high <;> rfl

theorem halfReg_eq {n : Port} {k : Four} (high : Bool) (h : k.toNat = 2 * n.toNat + high.toNat) : k = halfReg n high :=
  Four.toNat_inj.mp (h.trans (toNat_halfReg n high).symm)

theorem halfSlots_eq (mask : Word) (n : Port) (high : Bool) (j : Nat) :
    halfSlots mask high j = mask.getLsbD (16 * ((halfReg n high).toNat % 2) + j) := by
  cases n <;> cases high <;> simp [halfSlots, bitOf, halfReg, Four.toNat]

section Half

variable {s : State} {n : Port} {func : BitVec 2} {mask : Word} {high : Bool}

theorem slotOf_newFunctions (g : Gpio) {j : Nat} (hj : j < 16) : slotOf (newFunctions g n func mask high) j =
    if halfSlots mask high j = true then func else slotOf (g.funcSel.get (halfReg n high)) j :=
  slotOf_replaced _ _ _ hj

/-- 41 R189: the words of the statement are the word that is written. -/
theorem IsNewFunctions.eq {w : Word} (h : IsNewFunctions s (halfReg n high) func mask w) :
    newFunctions s.gpio n func mask high = w := by
  refine eq_of_slots fun j hj => ?_
  rw [slotOf_newFunctions _ hj, halfSlots_eq mask n]
  exact (h j hj).symm

theorem touches_halfReg : Touches mask (halfReg n high) ↔ ¬ skipsHalf mask high := by
  rw [skipsHalf_iff]
  simp only [Touches, ← halfSlots_eq, not_forall, Bool.not_eq_false, exists_prop]

/-- 41 R189: a half that has no pin of the mask is left as it is. -/
theorem State.halfWritten_of_skips (n : Port) (func : BitVec 2) (h : skipsHalf mask high) :
    s.halfWritten n func mask high = s := by
  have hold : newFunctions s.gpio n func mask high = s.gpio.funcSel.get (halfReg n high) := by
    refine eq_of_slots fun j hj => ?_
    rw [slotOf_newFunctions _ hj, (skipsHalf_iff mask high).mp h j hj, if_neg Bool.false_ne_true]
  have hset (q : Quad Word) (k : Four) : q.set k (q.get k) = q := by cases k <;> rfl
  rw [State.halfWritten, hold, hset, if_pos h]

theorem State.halfWritten_of_not_skips (n : Port) (func : BitVec 2) (h : ¬ skipsHalf mask high) :
    s.halfWritten n func mask high = s.setFuncSel (halfReg n high) (newFunctions s.gpio n func mask high) := by
  rw [State.halfWritten, if_neg h]
  rfl

/-- 41 R189: the functions of a port's pins after one half. -/
theorem pinFunc_halfWritten (p : Pin) : pinFunc (s.halfWritten n func mask high).gpio p.val =
    if p.val / 16 = 2 * n.toNat + high.toNat ∧ mask.getLsbD (p.val % 32) = true then func
    else pinFunc s.gpio p.val := by
  rw [pinFunc_eq_slot, pinFunc_eq_slot]
  simp only [State.halfWritten, Quad.get_set, funcReg_eq_iff, toNat_halfReg]
  by_cases hk : p.val / 16 = 2 * n.toNat + high.toNat
  · have hreg : Pin.funcReg p = halfReg n high := (funcReg_eq_iff p _).mpr (hk.trans (toNat_halfReg n high).symm)
    have hbit : halfSlots mask high (Pin.slot p) = mask.getLsbD (p.val % 32) := by
      rw [halfSlots_eq mask n, toNat_halfReg, ← hk]
      congr 1
      rw [Pin.slot]
      omega
    have hslot : Pin.slot p < 16 := Nat.mod_lt _ (by decide)
    rw [if_pos hk, slotOf_newFunctions _ hslot, hbit, hreg]
    simp only [hk, true_and]
  · simp only [hk, false_and, if_false]

/-- 40 R147: a half's write meets no early multiplexing, where each pin it gives to a UART is given to an enabled
one. -/
theorem not_muxTooEarly_half (h : ∀ i : Uid, ∀ p ∈ (s.params.uartPins.get i).toList,
      p.val / 16 = 2 * n.toNat + high.toNat → mask.getLsbD (p.val % 32) = true → func = 1 →
      pinFunc s.gpio p.val ≠ 1 → (s.uart.get i).ucon.txe = true ∧ (s.uart.get i).ucon.rxe = true) :
    ¬ MuxTooEarly s (halfReg n high) (newFunctions s.gpio n func mask high) := by
  rintro ⟨i, p, hp, hreg, hold, hnew, hoff⟩
  have hk : Pin.funcReg p = halfReg n high := (funcReg_eq_iff p _).mpr hreg
  have hold : pinFunc s.gpio p.val ≠ 1 := by
    rw [pinFunc_eq_slot, hk]
    exact hold
  have hnew : pinFunc (s.halfWritten n func mask high).gpio p.val = 1 := by
    rw [pinFunc_eq_slot, hk]
    simp only [State.halfWritten, Quad.get_set, if_true]
    exact hnew
  rw [pinFunc_halfWritten] at hnew
  split at hnew
  · next hc =>
    obtain ⟨htx, hrx⟩ := h i p hp hc.1 hc.2 hnew hold
    simp [htx, hrx] at hoff
  · exact hold hnew

/-- The run of one half: two steps, or none where it is skipped. -/
theorem goOn_half {fs : List Frame} (m : Nat) (hm : s.mode = .privileged)
    (hok : ¬ skipsHalf mask high → ¬ Race s (halfReg n high) ∧
      ¬ MuxTooEarly s (halfReg n high) (newFunctions s.gpio n func mask high)) :
    ∃ m', m ≤ m' ∧ goOn (m + 2) (s.push (halfFrames n func mask high ++ fs)) =
      goOn m' ((s.halfWritten n func mask high).push fs) := by
  by_cases hskip : skipsHalf mask high
  · refine ⟨m + 2, by omega, ?_⟩
    rw [halfFrames_of_skips n func hskip, State.halfWritten_of_skips n func hskip, List.nil_append]
  · obtain ⟨hr, hx⟩ := hok hskip
    refine ⟨m, le_rfl, ?_⟩
    rw [halfFrames_of_not_skips n func hskip, State.halfWritten_of_not_skips n func hskip]
    exact goOn_setFuncSel m hm hr hx

theorem Race.of_halfWritten {j : Four} (h : Race (s.halfWritten n func mask high) j) : Race s j := by
  obtain ⟨hctx, old, hpend⟩ := h
  have hctx : s.ctx ≠ .fg := hctx
  simp only [State.halfWritten, if_neg hctx, ite_self] at hpend
  exact ⟨hctx, old, hpend⟩

/-- 41 R189: the low half leaves the register of the high half. -/
theorem funcSel_high_halfWritten : (s.halfWritten n func mask false).gpio.funcSel.get (halfReg n true) =
    s.gpio.funcSel.get (halfReg n true) := by
  simp only [State.halfWritten, Quad.get_set]
  exact if_neg (by cases n <;> decide)

theorem MuxTooEarly.of_halfWritten {v : Word}
    (h : MuxTooEarly (s.halfWritten n func mask false) (halfReg n true) v) : MuxTooEarly s (halfReg n true) v := by
  rw [MuxTooEarly, funcSel_high_halfWritten] at h
  exact h

theorem MuxTooEarly.halfWritten {v : Word} (h : MuxTooEarly s (halfReg n true) v) :
    MuxTooEarly (s.halfWritten n func mask false) (halfReg n true) v := by
  rw [MuxTooEarly, funcSel_high_halfWritten]
  exact h

theorem Race.halfWritten {j : Four} (h : Race s j) : Race (s.halfWritten n func mask high) j := by
  obtain ⟨hctx, old, hpend⟩ := h
  exact ⟨hctx, old, by simp only [State.halfWritten, if_neg hctx, ite_self, hpend]⟩

theorem newFunctions_halfWritten :
    newFunctions (s.halfWritten n func mask false).gpio n func mask true = newFunctions s.gpio n func mask true := by
  simp only [newFunctions, funcSel_high_halfWritten]

end Half

section SetPortFunction

variable {s : State} {n : Port} {func : BitVec 2} {mask : Word} (hb : s.atStart = true) (hm : s.mode = .privileged)

include hb hm

theorem exec_gpioSetPortFunc_begins (hmask : mask ≠ 0) :
    exec (.gpioSetPortFunc (BitVec.ofNat 32 n.toNat) (func.setWidth 32) mask) s =
      .next (goOn (s.slice + 1) (s.push (halfFrames n func mask false ++
        (halfFrames n func mask true ++ [.finish 0x09 3 (some 0) none])))) := by
  have hi := exec_gpioSetPortFunc s n func mask
  obtain ⟨k, fm, fv, gs, hfs⟩ := halves_eq_funcRead n func hmask [.finish 0x09 3 (some 0) none]
  rw [hfs] at hi ⊢
  exact exec_begins_funcRead hb hm hi

/-- The low half's run within the operation. -/
theorem exec_gpioSetPortFunc_low (hslice : 4 ≤ s.slice) (hmask : mask ≠ 0)
    (hok : ¬ skipsHalf mask false → ¬ Race s (halfReg n false) ∧
      ¬ MuxTooEarly s (halfReg n false) (newFunctions s.gpio n func mask false)) :
    ∃ m, 3 ≤ m ∧ exec (.gpioSetPortFunc (BitVec.ofNat 32 n.toNat) (func.setWidth 32) mask) s =
      .next (goOn m ((s.halfWritten n func mask false).push
        (halfFrames n func mask true ++ [.finish 0x09 3 (some 0) none]))) := by
  obtain ⟨m, hle, hrun⟩ := goOn_half (fs := halfFrames n func mask true ++ [.finish 0x09 3 (some 0) none])
    (s.slice - 1) hm hok
  refine ⟨m, by omega, (exec_gpioSetPortFunc_begins hb hm hmask).trans (congrArg _ ?_)⟩
  rw [← hrun]
  congr 1
  omega

/-- An undisturbed operation completes after both halves. -/
theorem exec_gpioSetPortFunc_undisturbed (hslice : 4 ≤ s.slice) (hmask : mask ≠ 0)
    (hok : ∀ high, ¬ skipsHalf mask high → ¬ Race s (halfReg n high) ∧
      ¬ MuxTooEarly s (halfReg n high) (newFunctions s.gpio n func mask high)) :
    exec (.gpioSetPortFunc (BitVec.ofNat 32 n.toNat) (func.setWidth 32) mask) s =
      .next (((s.halfWritten n func mask false).halfWritten n func mask true).returned 0x09 3 0) := by
  obtain ⟨m, hge, hlow⟩ := exec_gpioSetPortFunc_low hb hm hslice hmask (hok false)
  obtain ⟨m', hge', hhigh⟩ := goOn_half (s := s.halfWritten n func mask false) (n := n) (func := func)
    (mask := mask) (high := true) (fs := [.finish 0x09 3 (some 0) none]) (m - 2) hm fun hskip => by
      rw [newFunctions_halfWritten]
      exact ⟨fun h => (hok true hskip).1 h.of_halfWritten, fun h => (hok true hskip).2 h.of_halfWritten⟩
  obtain ⟨j, rfl⟩ : ∃ j, m' = j + 1 := ⟨m' - 1, by omega⟩
  rw [Nat.sub_add_cancel (by omega)] at hhigh
  rw [hlow, hhigh, goOn_returned]

end SetPortFunction


/-- 41 R189: what both halves leave. -/
theorem State.halvesWritten {s : State} {n : Port} {func : BitVec 2} {mask : Word} (hmask : mask ≠ 0) :
    (s.halfWritten n func mask false).halfWritten n func mask true =
      { s with
        gpio := { s.gpio with
          funcSel := ((s.halfWritten n func mask false).halfWritten n func mask true).gpio.funcSel }
        fselPending := if s.ctx = .fg then none else s.fselPending } := by
  have hpending : ((s.halfWritten n func mask false).halfWritten n func mask true).fselPending =
      if s.ctx = .fg then none else s.fselPending := by
    simp only [State.halfWritten]
    rcases not_skipsHalf_of_ne_zero hmask with h | h
    · by_cases hc : s.ctx = .fg <;> simp [h, hc]
    · by_cases hc : s.ctx = .fg <;> simp [h, hc]
  rw [← hpending]
  rfl

/-- 41 R189: every pin of the mask, and no other, has the function. -/
theorem pinFunc_halvesWritten {s : State} {n : Port} {func : BitVec 2} {mask : Word} {p : Nat} (hp : p < 64) :
    pinFunc ((s.halfWritten n func mask false).halfWritten n func mask true).gpio p =
      if p / 32 = n.toNat ∧ mask.getLsbD (p % 32) = true then func else pinFunc s.gpio p := by
  have hhigh := pinFunc_halfWritten (s := s.halfWritten n func mask false) (n := n) (func := func) (mask := mask)
    (high := true) ⟨p, hp⟩
  have hlow := pinFunc_halfWritten (s := s) (n := n) (func := func) (mask := mask) (high := false) ⟨p, hp⟩
  have hport : p / 32 = n.toNat ↔ p / 16 = 2 * n.toNat + 1 ∨ p / 16 = 2 * n.toNat + 0 := by omega
  rw [hhigh, hlow]
  simp only [hport, or_and_right, ite_or, Bool.toNat_true, Bool.toNat_false]

/-- Settles O29: the two halves one after the other, each a read-modify-write or nothing. -/
theorem gpioSetPortFunction : Obligations.GpioSetPortFunction := by
  intro s mask hb hslice
  refine ⟨fun n func hmask hm hrace hmux => ?undisturbed, fun n func lo hi wlo whi hlo hhi hwlo hwhi hm => ?stopped,
    fun n func => ?emptyMask, fun port func hbad => exec_eq_failed ⟨hb, by omega⟩ ?badArgument⟩
  case undisturbed =>
    refine ⟨((s.halfWritten n func mask false).halfWritten n func mask true).gpio.funcSel, ?_,
      fun p hp => pinFunc_halvesWritten hp⟩
    rw [exec_gpioSetPortFunc_undisturbed hb hm hslice hmask fun high hskip => ?_]
    · exact congrArg (fun t : State => Host.Outcome.next (t.returned 0x09 3 0)) (State.halvesWritten hmask)
    have hport : (halfReg n high).toNat / 2 = n.toNat := by
      rw [toNat_halfReg]
      have := Bool.toNat_lt high
      omega
    refine ⟨hrace _ hport (touches_halfReg.mpr hskip), not_muxTooEarly_half fun i p hp hhalf => hmux i p hp ?_⟩
    have := Bool.toNat_lt high
    omega
  case stopped =>
    obtain rfl : lo = halfReg n false := halfReg_eq false hlo
    obtain rfl : hi = halfReg n true := halfReg_eq true hhi
    obtain rfl := hwlo.eq
    obtain rfl := hwhi.eq
    have start (u : State) := exec_gpioSetPortFunc u n func mask
    refine ⟨fun hlow => ?lowHalf, fun hhigh hok => ?highHalf⟩
    case lowHalf =>
      have hskip := touches_halfReg.mp hlow
      have begins := exec_gpioSetPortFunc_begins (n := n) (func := func) hb hm (ne_zero_of_not_skips hskip)
      rw [halfFrames_of_not_skips n func hskip] at begins
      exact ⟨fun hr => (stopsAt_race _ hm hr).exec start begins,
        fun hr hx => (stopsAt_muxTooEarly _ hm rfl hr hx).exec start begins⟩
    case highHalf =>
      have hskip := touches_halfReg.mp hhigh
      obtain ⟨m, hge, begins⟩ := exec_gpioSetPortFunc_low (n := n) (func := func) hb hm hslice
        (ne_zero_of_not_skips hskip) fun h => hok (touches_halfReg.mpr h)
      obtain ⟨m, rfl⟩ : ∃ m', m = m' + 1 := ⟨m - 1, by omega⟩
      rw [halfFrames_of_not_skips n func hskip] at begins
      refine ⟨fun hr => ?_, fun hr hx => ?_⟩
      · exact (stopsAt_race (s := s.halfWritten n func mask false) m hm hr.halfWritten).exec start begins
      · exact (stopsAt_muxTooEarly (s := s.halfWritten n func mask false) m hm newFunctions_halfWritten
          (fun h => hr h.of_halfWritten) hx.halfWritten).exec start begins
  case emptyMask =>
    rw [exec_gpioSetPortFunc, operation_go hb, halfFrames_of_skips n func (skipsHalf_zero false),
      halfFrames_of_skips n func (skipsHalf_zero true)]
    exact congrArg _ (State.complete_ret s 0x09 3 0)
  case badArgument =>
    simp only [exec, execGpioSetPortFunc]
    rcases hbad with h | h
    · rw [portOf_eq_none h]
    · rw [funcOf_eq_none h]
      cases portOf port <;> rfl

end Sys2Proof.Machine
end

section
/-! PROOF. A circular buffer as a bounded queue (43 R250, R259): the bytes it holds after a put and after a drop, and
the two commands as the queue's operations. -/

namespace Sys2Proof.Machine

/-! ### The bytes a buffer holds (43 R250) -/

namespace Cb

variable {b : Cb}

@[simp] theorem length_bytes (b : Cb) : b.bytes.length = b.count := by simp [bytes]

theorem bytes_eq_nil_iff (b : Cb) : b.bytes = [] ↔ b.count = 0 := by
  rw [← List.length_eq_zero_iff, length_bytes]

/-- Below the capacity the next slot is none of those held. -/
theorem add_mod_ne {r c j n : Nat} (hn : n < c) (hj : j < n) : (r + j) % c ≠ (r + n) % c := by
  intro h
  have hmod := (Nat.ModEq.add_left_cancel' r h : j ≡ n [MOD c])
  rw [Nat.ModEq, Nat.mod_eq_of_lt (hj.trans hn), Nat.mod_eq_of_lt hn] at hmod
  omega

/-- A put appends its byte. -/
theorem bytes_put (hv : b.valid = true) (hi : b.Inv) (hroom : b.count < b.cap) (v : Byte) :
    (b.put v).bytes = b.bytes ++ [v] := by
  obtain ⟨-, h⟩ := hi
  obtain ⟨-, -, -, hw, -⟩ := h hv
  rw [bytes, show (b.put v).count = b.count + 1 from rfl, List.range_succ, List.map_append, List.map_singleton]
  simp only [put, Mem.get_set, hw, if_true, Option.getD_some]
  refine congrArg (· ++ [v]) (List.map_congr_left fun j hj => ?_)
  rw [if_neg (add_mod_ne hroom (List.mem_range.mp hj))]

/-- A buffer that is not empty holds its front and then what a drop leaves. -/
theorem bytes_eq_cons (hv : b.valid = true) (hi : b.Inv) (hc : b.count ≠ 0) : b.bytes = b.front :: b.drop.bytes := by
  obtain ⟨v, hfront⟩ := inv_front hv hi hc
  obtain ⟨-, h⟩ := hi
  obtain ⟨hr, -⟩ := h hv
  obtain ⟨n, hn⟩ := Nat.exists_eq_succ_of_ne_zero hc
  rw [bytes, hn, List.range_succ_eq_map, List.map_cons, List.map_map, bytes,
    show b.drop.count = n by simp [drop, hn]]
  refine congrArg₂ _ ?_ (List.map_congr_left fun j _ => ?_)
  · rw [Nat.add_zero, Nat.mod_eq_of_lt hr, front, hfront]
    rfl
  · simp only [Function.comp_apply, drop, mod_succ_add]

/-- `n` drops. -/
def dropN (b : Cb) (n : Nat) : Cb := { b with r := (b.r + n) % b.cap, count := b.count - n }

theorem dropN_zero (hv : b.valid = true) (hi : b.Inv) : b.dropN 0 = b := by
  obtain ⟨-, h⟩ := hi
  obtain ⟨hr, -⟩ := h hv
  rw [dropN, Nat.add_zero, Nat.mod_eq_of_lt hr, Nat.sub_zero]

theorem drop_dropN (b : Cb) (n : Nat) : b.drop.dropN n = b.dropN (n + 1) := by
  simp only [dropN, drop, mod_succ_add, Nat.sub_sub, Nat.add_comm 1 n]

theorem full_of_lt (h : b.count < b.cap) : b.full = false := beq_false_of_ne h.ne

theorem empty_of_count_ne_zero (h : b.count ≠ 0) : b.empty = false := beq_false_of_ne h

end Cb

/-! ### The two commands on a usable buffer -/

theorem Usable.returned {s : State} {h : Nat} {b b' : Cb} (hu : Usable s h b) (hv : b'.valid = true) (hi : b'.Inv)
    (op : Byte) (n : Nat) (ret : Word) : Usable ((s.setCb h b').returned op n ret) h b' := by
  obtain ⟨hb, -, -, hd⟩ := hu
  exact ⟨List.getElem?_set_self (List.getElem?_eq_some_iff.mp hb).1, hv, hi, hd⟩

theorem Ready.returned {s : State} (hs : Ready s) (h : Nat) (b : Cb) (op : Byte) (n : Nat) (ret : Word) :
    Ready ((s.setCb h b).returned op n ret) := ⟨hs.boundary, hs.slice⟩

theorem readResults_append_done (es : List Event) (c : Ctx) (pc : Nat) (op : Byte) (ret out : Option Word) :
    readResults (es ++ [.done c pc op ret out]) = readResults es ++ if op = 0x24#8 then [ret] else [] := by
  rw [readResults, List.filterMap_append]
  by_cases h : op = 0x24#8 <;> simp [readResults, h]

section OnUsableBuffer

variable {s : State} {h : Word} {b : Cb} (hs : Ready s) (hu : Usable s h.toNat b)

include hs hu

/-- With room `cb.write` appends its byte. -/
theorem exec_cbWrite_usable (hroom : b.count < b.cap) (byte : Word) :
    ∃ t b', exec (.cbWrite h byte) s = .next t ∧ Ready t ∧ Usable t h.toNat b' ∧
      b'.bytes = b.bytes ++ [byte.extractLsb' 0 8] ∧ b'.cap = b.cap ∧
      readResults t.history = readResults s.history := by
  obtain ⟨hb, hv, hi, hd⟩ := id hu
  obtain ⟨-, onBuffer⟩ := bufferWrite s h byte hs
  obtain ⟨-, -, -, done⟩ := onBuffer b hb
  refine ⟨_, b.put (byte.extractLsb' 0 8), done hv hd hroom.ne, hs.returned h.toNat _ 0x23 2 0,
    hu.returned (b' := b.put _) hv (Cb.inv_put hv (Cb.full_of_lt hroom) hi) 0x23 2 0,
    Cb.bytes_put hv hi hroom _, rfl, ?_⟩
  exact (readResults_append_done ..).trans (List.append_nil _)

/-- With a byte `cb.read` removes and returns the oldest. -/
theorem exec_cbRead_usable {x : Byte} {q : List Byte} (hx : b.bytes = x :: q) :
    ∃ t b', exec (.cbRead h) s = .next t ∧ Ready t ∧ Usable t h.toNat b' ∧ b'.bytes = q ∧ b'.cap = b.cap ∧
      t.cur.ret = some (x.setWidth 32) ∧
      readResults t.history = readResults s.history ++ [some (x.setWidth 32)] := by
  obtain ⟨hb, hv, hi, hd⟩ := id hu
  have hc : b.count ≠ 0 := fun h0 => by simp [(Cb.bytes_eq_nil_iff b).mpr h0] at hx
  obtain ⟨-, onBuffer⟩ := bufferRead s h hs
  obtain ⟨-, -, -, done⟩ := onBuffer b hb
  obtain ⟨v, hfront, hread⟩ := done hv hd hc hi
  obtain ⟨hxv, hq⟩ : b.front = x ∧ b.drop.bytes = q := by
    rw [Cb.bytes_eq_cons hv hi hc] at hx
    exact List.cons.inj hx
  obtain rfl : v = x := by rw [← hxv, Cb.front, hfront]; rfl
  exact ⟨_, b.drop, hread, hs.returned h.toNat _ 0x24 1 _,
    hu.returned (b' := b.drop) hv (Cb.inv_drop hv (Cb.empty_of_count_ne_zero hc) hi) 0x24 1 _, hq, rfl, rfl,
    readResults_append_done ..⟩

end OnUsableBuffer

/-- Settles O37: a put appends to the bytes held, a drop removes the first. -/
theorem bufferIsQueue : Obligations.BufferIsQueue := by
  intro s h byte b hs hu
  obtain ⟨-, hv, hi, -⟩ := id hu
  obtain ⟨-, -, hle, -⟩ := hi.2 hv
  refine ⟨Cb.length_bytes b, hle, fun hroom => ?write, fun x q hx => ?read⟩
  case write =>
    rw [Cb.length_bytes] at hroom
    obtain ⟨t, b', ht, -, hu', hbytes, hcap, -⟩ := exec_cbWrite_usable hs hu hroom byte
    exact ⟨t, b', ht, hu'.1, hbytes, hcap, hu'⟩
  case read =>
    obtain ⟨t, b', ht, -, hu', hbytes, hcap, hret, -⟩ := exec_cbRead_usable hs hu hx
    exact ⟨t, b', ht, hu'.1, hbytes, hcap, hu', hret⟩

/-! ### Runs of writes and of reads (43 R259) -/

theorem execAll_cons {i : Instr} {is : List Instr} {s t : State} (h : exec i s = .next t) :
    execAll (i :: is) s = execAll is t := by
  rw [execAll, h]

/-- Writes that fit append their bytes in order. -/
theorem execAll_cbWrite {h : Word} (ws : List Word) : ∀ {s : State} {b : Cb}, Ready s → Usable s h.toNat b →
    b.count + ws.length ≤ b.cap →
    ∃ t bt, execAll (ws.map (fun w => Instr.cbWrite h w)) s = some t ∧ Ready t ∧ Usable t h.toNat bt ∧
      bt.bytes = b.bytes ++ ws.map (fun w => w.extractLsb' 0 8) ∧ bt.cap = b.cap ∧
      readResults t.history = readResults s.history := by
  induction ws with
  | nil => exact fun {s b} hs hu _ => ⟨s, b, rfl, hs, hu, by simp, rfl, rfl⟩
  | cons w ws ih =>
    intro s b hs hu hfit
    rw [List.length_cons] at hfit
    obtain ⟨s', b', hw, hs', hu', hbytes, hcap, hres⟩ := exec_cbWrite_usable hs hu (by omega) w
    have hcount := congrArg List.length hbytes
    simp only [List.length_append, Cb.length_bytes, List.length_singleton] at hcount
    obtain ⟨t, bt, ht, hst, hut, hbt, hcapt, hrest⟩ := ih hs' hu' (by omega)
    refine ⟨t, bt, (execAll_cons hw).trans ht, hst, hut, ?_, hcapt.trans hcap, hrest.trans hres⟩
    rw [hbt, hbytes, List.map_cons, List.append_assoc, List.singleton_append]

/-- As many reads as bytes are held return them in order. -/
theorem execAll_cbRead {h : Word} (ws : List Word) : ∀ {s : State} {b : Cb}, Ready s → Usable s h.toNat b →
    b.count = ws.length →
    ∃ u bu, execAll (ws.map (fun _ => Instr.cbRead h)) s = some u ∧ u.cb[h.toNat]? = some bu ∧ bu.count = 0 ∧
      readResults u.history = readResults s.history ++ b.bytes.map (fun x => some (x.setWidth 32)) := by
  induction ws with
  | nil =>
    intro s b hs hu hc
    exact ⟨s, b, rfl, hu.1, hc, by simp [(Cb.bytes_eq_nil_iff b).mpr hc]⟩
  | cons w ws ih =>
    intro s b hs hu hc
    obtain ⟨x, q, hx⟩ : ∃ x q, b.bytes = x :: q := by
      refine List.exists_cons_of_ne_nil fun hnil => ?_
      rw [Cb.bytes_eq_nil_iff, hc] at hnil
      cases hnil
    obtain ⟨s', b', hr, hs', hu', hbytes, -, -, hres⟩ := exec_cbRead_usable hs hu hx
    have hcount : b'.count = ws.length := by
      have hlen := congrArg List.length hx
      simp only [Cb.length_bytes, hc, List.length_cons, ← hbytes] at hlen
      omega
    obtain ⟨u, bu, hu, hbu, hzero, hrest⟩ := ih hs' hu' hcount
    refine ⟨u, bu, (execAll_cons hr).trans hu, hbu, hzero, ?_⟩
    rw [hrest, hres, hbytes, hx, List.map_cons, List.append_assoc, List.singleton_append]

/-- Settles O38: the writes append the words' low bytes, the reads take them off in the same order. -/
theorem bufferReturnsBytesInOrder : Obligations.BufferReturnsBytesInOrder := by
  intro s h b ws hs hu hempty hfit
  obtain ⟨t, bt, ht, hst, hut, hbytes, hcap, hres⟩ := execAll_cbWrite ws hs hu (by omega)
  rw [(Cb.bytes_eq_nil_iff b).mpr hempty, List.nil_append] at hbytes
  have hcount : bt.count = ws.length := by rw [← Cb.length_bytes, hbytes, List.length_map]
  obtain ⟨u, bu, hu', hbu, hzero, hread⟩ := execAll_cbRead ws hst hut hcount
  refine ⟨t, u, bt, bu, ht, hut.1, by rw [hcount, hcap], hu', hbu, hzero, ?_⟩
  rw [hread, hres, hbytes, List.map_map]
  rfl

end Sys2Proof.Machine
end

section
/-! PROOF. Runs of an operation's steps (10 R20, 00 R9), and the steps that the driver and the ISR share (45 R341, R343,
R349): what each leaves, from one state to the next. -/

namespace Sys2Proof.Machine

/-! ### Runs -/

/-- Within `n` steps the running context goes from `s` to `t`, and has at least the steps left that it has beyond
`n`. -/
def Runs (n : Nat) (s t : State) : Prop := ∀ k, ∃ k', k ≤ k' ∧ goOn (k + n) s = goOn k' t

namespace Runs

variable {n m : Nat} {s t u : State} {f : Frame} {fs : List Frame}

theorem refl (s : State) : Runs 0 s s := fun k => ⟨k, le_rfl, rfl⟩

theorem trans (h : Runs n s t) (h' : Runs m t u) : Runs (n + m) s u := by
  intro k
  obtain ⟨k', hk, hrun⟩ := h (k + m)
  obtain ⟨k'', hk', hrun'⟩ := h' (k' - m)
  rw [Nat.sub_add_cancel (by omega)] at hrun'
  exact ⟨k'', by omega, by rw [show k + (n + m) = k + m + n by omega, hrun, hrun']⟩

theorem mono (h : Runs n s t) (hle : n ≤ m) : Runs m s t := by
  intro k
  obtain ⟨k', hk, hrun⟩ := h (k + (m - n))
  exact ⟨k', by omega, by rw [← hrun, show k + (m - n) + n = k + m by omega]⟩

/-- One step. -/
theorem frame (h : Machine.frame f (s.push fs) = .go t) : Runs 1 (s.push (f :: fs)) t :=
  fun k => ⟨k, le_rfl, goOn_go h⟩

/-- Where every run from `t` ends, a long enough run from `s` ends. -/
theorem goOn_eq (h : Runs n s t) {r : State} {k : Nat} (ht : ∀ j, m ≤ j → goOn j t = r) (hk : n + m ≤ k) :
    goOn k s = r := by
  obtain ⟨k', hle, hrun⟩ := h (k - n)
  rw [Nat.sub_add_cancel (by omega)] at hrun
  rw [hrun, ht k' (by omega)]

/-- A run to an operation's completion. -/
theorem returned {op : Byte} {c k : Nat} {ret : Word} (h : Runs n s (t.push [.finish op c (some ret) none]))
    (hk : n + 1 ≤ k) : goOn k s = t.returned op c ret := by
  refine h.goOn_eq (m := 1) (fun j hj => ?_) hk
  obtain ⟨j, rfl⟩ : ∃ j', j = j' + 1 := ⟨j - 1, by omega⟩
  exact goOn_returned j t op c ret

/-- A run to a step that gives way. -/
theorem rests {k : Nat} (h : Runs n s t) (ht : atomic t = .rest u) (hk : n + 1 ≤ k) : goOn k s = u := by
  refine h.goOn_eq (m := 1) (fun j hj => ?_) hk
  obtain ⟨j, rfl⟩ : ∃ j', j = j' + 1 := ⟨j - 1, by omega⟩
  rw [goOn_succ, ht]

/-- A run to a step that would fault. -/
theorem faults {k : Nat} {e : Fault} (h : Runs n s (t.push (f :: fs)))
    (ht : Machine.frame f (t.push fs) = .fault e) (hk : n ≤ k) : goOn k s = t.push (f :: fs) :=
  h.goOn_eq (m := 0) (fun _ _ => goOn_before_fault ht) hk

end Runs

/-! ### Mask bits (45 R341) -/

/-- The state with one interrupt mask bit of a UART changed. -/
def State.setMask (s : State) (i : Uid) (m : MaskBit) (b : Bool) : State :=
  s.setUart i { s.uart.get i with ucon := (s.uart.get i).ucon.withMask m b }

theorem Runs.setMask {s : State} {i : Uid} {fs : List Frame} (m : MaskBit) (b : Bool) (hm : s.mode = .privileged)
    (ht : (s.uart.get i).ucon.tst = false) : Runs 2 (s.push (.maskRead i m b :: fs)) ((s.setMask i m b).push fs) :=
  fun k => ⟨k, le_rfl, goOn_setMask hm ht⟩

/-- 30 R108: a mask bit in the control word. -/
theorem bitOf_uconWord (u : Ucon) : bitOf u.word MaskBit.mrxr.position = u.mrxr ∧
    bitOf u.word MaskBit.mtxr.position = u.mtxr := by
  obtain ⟨a1, a2, a3, a4, a5, a6, a7, a8⟩ := u
  revert a1 a2 a3 a4 a5 a6 a7 a8
  decide

theorem regRead_ucon {s : State} (i : Uid) (hm : s.mode = .privileged) :
    regRead s (.ucon i) = .ok ((s.uart.get i).ucon.word, s) := regRead_privileged _ hm

theorem State.setMask_setMask (s : State) (i : Uid) (m : MaskBit) (a b : Bool) :
    (s.setMask i m a).setMask i m b = s.setMask i m b := by
  cases m <;> simp only [State.setMask, State.setUart, Ucon.withMask, Pair.get_set, Pair.set_set, if_true]

theorem State.setMask_mrxr_self (s : State) (i : Uid) : s.setMask i .mrxr (s.uart.get i).ucon.mrxr = s :=
  congrArg (fun uart => { s with uart := uart }) (Pair.set_get s.uart i)

theorem State.setMask_mtxr_self (s : State) (i : Uid) : s.setMask i .mtxr (s.uart.get i).ucon.mtxr = s :=
  congrArg (fun uart => { s with uart := uart }) (Pair.set_get s.uart i)

theorem State.setMask_tst (s : State) (i : Uid) (m : MaskBit) (b : Bool) :
    ((s.setMask i m b).uart.get i).ucon.tst = (s.uart.get i).ucon.tst := by
  cases m <;> simp only [State.setMask, State.setUart_uart, Ucon.withMask, Pair.get_set, if_true]

/-! ### Words put out and taken in -/

/-- 44 R285: with room, a byte goes to the transmit FIFO. -/
theorem Runs.udataWrite {s : State} {i : Uid} {fs : List Frame} (v : Word) (hm : s.mode = .privileged)
    (hroom : 0 < txFree s i) : Runs 1 (s.push (.regWrite (.udata i) v :: fs))
      ((s.setUart i { s.uart.get i with txfifo := (s.uart.get i).txfifo ++ [lowByte v] }).push fs) := by
  have hfull : (s.uart.get i).txfifo.length < s.params.txFifoDepth := by
    rw [txFree] at hroom
    omega
  exact fun k => ⟨k, le_rfl, goOn_regWrite hm (if_pos hfull)⟩

/-- 44 R284: the head of the receive FIFO is taken. -/
theorem regRead_udata {s : State} {i : Uid} {b : Byte} {q : List Byte} (hm : s.mode = .privileged)
    (hb : (s.uart.get i).rxfifo = b :: q) :
    regRead s (.udata i) = .ok (zextByte b, s.setUart i { s.uart.get i with rxfifo := q }) := by
  rw [regRead_privileged _ hm]
  exact udataRead_cons hb

/-! ### The transmit side -/

/-- UART `i`'s transmit buffer is `tx`, and the running context may use it (43 R257) and the registers. -/
structure TxSide (s : State) (i : Uid) (tx : Cb) : Prop where
  mode : s.mode = .privileged
  depth : s.params.txFifoDepth ≤ 63
  buffer : s.cb[txBuffer i]? = some tx
  valid : tx.valid = true
  inv : tx.Inv
  mayTouch : s.ctx ≠ .fg ∨ (s.uart.get i).ucon.mtxr = true

/-- The state once the oldest `n` bytes of the transmit buffer are in the transmit FIFO. -/
def State.handedOver (s : State) (i : Uid) (tx : Cb) (n : Nat) : State :=
  { s with
    uart := s.uart.set i { s.uart.get i with txfifo := (s.uart.get i).txfifo ++ tx.bytes.take n }
    cb := s.cb.set (txBuffer i) (tx.dropN n) }

/-- 43 R257: outside the foreground every buffer may be touched. -/
theorem disciplined_isr {s : State} {h : Nat} (hc : s.ctx ≠ .fg) : undisciplined s h = false := by
  rw [Bool.eq_false_iff, Ne, undisciplined_iff]
  exact fun hv => hc hv.1

theorem set_getElem?_self {α : Type} {l : List α} {n : Nat} {a : α} (h : l[n]? = some a) : l.set n a = l := by
  obtain ⟨hn, rfl⟩ := List.getElem?_eq_some_iff.mp h
  exact List.set_getElem_self hn

namespace TxSide

variable {s : State} {i : Uid} {tx : Cb} {fs : List Frame}

theorem bufferAt (h : TxSide s i tx) : Machine.bufferAt s (txBuffer i) = .ok tx :=
  bufferAt_eq_ok.mpr ⟨h.buffer, h.valid, h.mayTouch.elim disciplined_isr disciplined_tx⟩

theorem handedOver_zero (h : TxSide s i tx) : s.handedOver i tx 0 = s := by
  rw [State.handedOver, Cb.dropN_zero h.valid h.inv, set_getElem?_self h.buffer, List.take_zero, List.append_nil,
    Pair.set_get]

/-- 45 R343: a byte goes from the transmit buffer to the transmit FIFO. -/
theorem popToUdata (h : TxSide s i tx) (hc : tx.count ≠ 0) (hroom : 0 < txFree s i) :
    Runs 2 (s.push (.popToUdata i :: fs)) ((s.handedOver i tx 1).push fs) := by
  have pop : Machine.frame (.popToUdata i) (s.push fs) =
      .go ((s.setCb (txBuffer i) tx.drop).push (.regWrite (.udata i) (zextByte tx.front) :: fs)) := by
    have hread : cbRead (s.push fs) (txBuffer i) = .ok (tx.front, (s.push fs).setCb (txBuffer i) tx.drop) := by
      rw [cbRead, show Machine.bufferAt (s.push fs) (txBuffer i) = _ from h.bufferAt, Res.bind_ok,
        Cb.empty_of_count_ne_zero hc]
      rfl
    simp only [Machine.frame, hread, Res.map_ok, Micro.ofRes]
    rfl
  have hone : tx.bytes.take 1 = [tx.front] := by rw [Cb.bytes_eq_cons h.valid h.inv hc]; rfl
  have write := Runs.udataWrite (s := s.setCb (txBuffer i) tx.drop) (fs := fs) (zextByte tx.front) h.mode hroom
  rw [lowByte_zextByte] at write
  rw [State.handedOver, hone]
  exact (Runs.frame pop).trans write

/-- A byte handed over leaves the rest of the buffer to hand over. -/
theorem handedOver (h : TxSide s i tx) (hc : tx.count ≠ 0) : TxSide (s.handedOver i tx 1) i tx.drop where
  mode := h.mode
  depth := h.depth
  buffer := List.getElem?_set_self (List.getElem?_eq_some_iff.mp h.buffer).1
  valid := h.valid
  inv := Cb.inv_drop h.valid (Cb.empty_of_count_ne_zero hc) h.inv
  mayTouch := by simpa only [State.handedOver, Pair.get_set, if_true] using h.mayTouch

theorem handedOver_succ (h : TxSide s i tx) (hc : tx.count ≠ 0) (n : Nat) :
    (s.handedOver i tx 1).handedOver i tx.drop n = s.handedOver i tx (n + 1) := by
  simp only [State.handedOver, Pair.get_set, Pair.set_set, if_true, List.set_set, Cb.drop_dropN, List.append_assoc,
    Cb.bytes_eq_cons h.valid h.inv hc, List.take_succ_cons, List.take_zero, List.singleton_append]

end TxSide

theorem txFree_handedOver {s : State} {i : Uid} {tx : Cb} {n : Nat} (hn : n ≤ tx.count) :
    txFree (s.handedOver i tx n) i = txFree s i - n := by
  simp only [txFree, State.handedOver, Pair.get_set, if_true, List.length_append, List.length_take, Cb.length_bytes,
    Nat.min_eq_left hn]
  omega

/-! ### The receive side -/

/-- UART `i`'s receive buffer is `rx`, and the running context may use it (43 R257) and the registers. -/
structure RxSide (s : State) (i : Uid) (rx : Cb) : Prop where
  mode : s.mode = .privileged
  buffer : s.cb[rxBuffer i]? = some rx
  valid : rx.valid = true
  inv : rx.Inv
  mayTouch : s.ctx ≠ .fg ∨ (s.uart.get i).ucon.mrxr = true

theorem RxSide.bufferAt {s : State} {i : Uid} {rx : Cb} (h : RxSide s i rx) :
    Machine.bufferAt s (rxBuffer i) = .ok rx :=
  bufferAt_eq_ok.mpr ⟨h.buffer, h.valid, h.mayTouch.elim disciplined_isr disciplined_rx⟩

/-! ### Levels -/

/-- 44 R286, R288: a level below 2^32 reads 0 exactly where it is 0. -/
theorem ofNat_eq_zero_iff {n : Nat} (h : n ≤ 63) : BitVec.ofNat 32 n = 0 ↔ n = 0 := by
  constructor
  · intro h0
    have := congrArg BitVec.toNat h0
    rwa [BitVec.toNat_ofNat, Nat.mod_eq_of_lt (by omega)] at this
  · rintro rfl
    rfl

theorem frame_waitTx_of_room {s : State} {i : Uid} {fs : List Frame} (hm : s.mode = .privileged)
    (hd : s.params.txFifoDepth ≤ 63) (hroom : 0 < txFree s i) : frame (.waitTx i) (s.push fs) = .go (s.push fs) := by
  have hle : txFree s i ≤ 63 := (Nat.sub_le _ _).trans hd
  rw [frame_waitTx (regRead_privileged (s := s.push fs) _ hm)]
  exact if_neg fun h0 => hroom.ne' ((ofNat_eq_zero_iff hle).mp h0)

theorem frame_waitTx_of_full {s : State} {i : Uid} {fs : List Frame} (hm : s.mode = .privileged)
    (hfull : txFree s i = 0) : frame (.waitTx i) (s.push fs) = .rest (s.push (.waitTx i :: fs)) := by
  rw [frame_waitTx (regRead_privileged (s := s.push fs) _ hm)]
  exact if_pos (congrArg _ hfull)

theorem frame_waitRx_of_byte {s : State} {i : Uid} {fs : List Frame} (hm : s.mode = .privileged)
    (hd : (s.uart.get i).rxfifo.length ≤ 63) (hb : (s.uart.get i).rxfifo ≠ []) :
    frame (.waitRx i) (s.push fs) = .go (s.push fs) := by
  rw [frame_waitRx (regRead_privileged (s := s.push fs) _ hm)]
  exact if_neg fun h0 => hb (List.length_eq_zero_iff.mp ((ofNat_eq_zero_iff hd).mp h0))

theorem frame_waitRx_of_empty {s : State} {i : Uid} {fs : List Frame} (hm : s.mode = .privileged)
    (hb : (s.uart.get i).rxfifo = []) : frame (.waitRx i) (s.push fs) = .rest (s.push (.waitRx i :: fs)) := by
  rw [frame_waitRx (regRead_privileged (s := s.push fs) _ hm)]
  exact if_pos (by simp [hb])

end Sys2Proof.Machine
end

section
/-! PROOF. The two blocking transfers (45 R343, R344): the loop that hands buffered bytes to the FIFO, the waits, and
the operations' runs from their beginning and from a wait. -/

namespace Sys2Proof.Machine

/-! ### An operation's run -/

theorem State.push_setTodo_of_todo {s : State} {gs fs : List Frame} (h : s.cur.todo = gs ++ fs) :
    (s.setTodo fs).push gs = s := by
  rw [State.push, State.setTodo_setTodo]
  exact (congrArg s.setTodo h.symm).trans (State.setTodo_self s)

theorem initialized_go {s : State} {i : Uid} (hu : (s.uart.get i).ustate = .initialized) (fs : List Frame) :
    initialized s i fs = .ok (.go fs) := by
  rw [initialized, hu]

/-- An operation of an initialised UART runs its frames with its slice. -/
theorem operation_initialized {s t : State} {i : Uid} {f : Frame} {fs : List Frame} (hb : s.atStart = true)
    (hu : (s.uart.get i).ustate = .initialized) (hf : frame f (s.push fs) = .go t) :
    operation s (initialized s i (f :: fs)) = .next (goOn (s.slice + 1) (s.push (f :: fs))) := by
  rw [initialized_go hu, operation_go hb]
  exact burst_eq_goOn hf

theorem Driver.txSide {s : State} {i : Uid} {rx tx : Cb} (h : Driver s i rx tx) :
    TxSide (s.setMask i .mtxr true) i tx where
  mode := h.mode
  depth := h.txDepth
  buffer := h.txAt
  valid := h.txValid
  inv := h.txInv
  mayTouch := .inr (by simp only [State.setMask, State.setUart_uart, Pair.get_set, if_true, Ucon.withMask])

theorem Driver.rxSide {s : State} {i : Uid} {rx tx : Cb} (h : Driver s i rx tx) :
    RxSide (s.setMask i .mrxr true) i rx where
  mode := h.mode
  buffer := h.rxAt
  valid := h.rxValid
  inv := h.rxInv
  mayTouch := .inr (by simp only [State.setMask, State.setUart_uart, Pair.get_set, if_true, Ucon.withMask])

/-! ### The send loop (45 R343) -/

section SendLoop

variable {s : State} {i : Uid} {tx : Cb} {byte : Word} {saved : Bool}

/-- The test of the buffer goes on with what is left to do. -/
theorem TxSide.drain (h : TxSide s i tx) :
    Runs 1 (s.push [.sendByteDrain i (lowByte byte) saved]) (s.push (sendLeft i byte saved tx.count)) := by
  refine Runs.frame ?_
  have hempty : cbIsEmpty (s.push []) (txBuffer i) = .ok tx.empty := by
    rw [cbIsEmpty, show Machine.bufferAt (s.push []) (txBuffer i) = _ from h.bufferAt]
    rfl
  simp only [frame, hempty, Res.map_ok, Micro.ofRes, sendLeft, Cb.empty, beq_iff_eq]
  split <;> rfl

/-- While there is room the buffered bytes go out in order. -/
theorem TxSide.handOver (n : Nat) : ∀ {s : State} {tx : Cb}, TxSide s i tx → n ≤ tx.count → n ≤ txFree s i →
    Runs (4 * n) (s.push (sendLeft i byte saved tx.count))
      ((s.handedOver i tx n).push (sendLeft i byte saved (tx.count - n))) := by
  induction n with
  | zero =>
    intro s tx h _ _
    rw [h.handedOver_zero]
    exact Runs.refl _
  | succ n ih =>
    intro s tx h hn hroom
    have hc : tx.count ≠ 0 := by omega
    have first : Runs 3 (s.push (sendLeft i byte saved tx.count))
        ((s.handedOver i tx 1).push [.sendByteDrain i (lowByte byte) saved]) := by
      rw [sendLeft, if_neg hc]
      exact (Runs.frame (frame_waitTx_of_room h.mode h.depth (by omega))).trans (h.popToUdata hc (by omega))
    have hfree := txFree_handedOver (s := s) (i := i) (tx := tx) (n := 1) (by omega)
    have h1 := h.handedOver hc
    have rest := ih h1 (Nat.le_sub_one_of_lt hn) (by omega)
    rw [h.handedOver_succ hc, show tx.drop.count - n = tx.count - (n + 1) by simp only [Cb.drop]; omega] at rest
    exact ((first.trans h1.drain).trans rest).mono (by omega)

/-- The state once all buffered bytes and then `byte` are in the transmit FIFO. -/
def State.sent (s : State) (i : Uid) (tx : Cb) (byte : Word) : State :=
  { s with
    uart := s.uart.set i { s.uart.get i with
      txfifo := (s.uart.get i).txfifo ++ tx.bytes ++ [byte.extractLsb' 0 8] }
    cb := s.cb.set (txBuffer i) { tx with r := (tx.r + tx.count) % tx.cap, count := 0 } }

/-- With room for all, the operation comes to the end of its loop. -/
theorem TxSide.sendAll (h : TxSide s i tx) (hroom : tx.count < txFree s i) :
    Runs (4 * tx.count + 2) (s.push (sendLeft i byte saved tx.count))
      ((s.sent i tx byte).push [.maskRead i .mtxr saved, .finish 0x31 2 (some 0) none]) := by
  have out := TxSide.handOver (byte := byte) (saved := saved) tx.count h le_rfl hroom.le
  rw [Nat.sub_self] at out
  have hfree : 0 < txFree (s.handedOver i tx tx.count) i := by
    rw [txFree_handedOver le_rfl]
    omega
  have last := (Runs.frame (frame_waitTx_of_room (s := s.handedOver i tx tx.count)
    (fs := [.regWrite (.udata i) (zextByte (lowByte byte)), .maskRead i .mtxr saved, .finish 0x31 2 (some 0) none])
    h.mode h.depth hfree)).trans (Runs.udataWrite _ h.mode hfree)
  rw [lowByte_zextByte] at last
  have hsent : (s.handedOver i tx tx.count).setUart i { (s.handedOver i tx tx.count).uart.get i with
      txfifo := ((s.handedOver i tx tx.count).uart.get i).txfifo ++ [lowByte byte] } = s.sent i tx byte := by
    simp only [State.setUart, State.handedOver, State.sent, Cb.dropN, Nat.sub_self, Pair.get_set, Pair.set_set, if_true,
      List.take_of_length_le (Cb.length_bytes tx).le]
    rfl
  rw [hsent] at last
  exact out.trans last

theorem sendLeft_eq_cons (i : Uid) (byte : Word) (saved : Bool) (n : Nat) :
    ∃ fs, sendLeft i byte saved n = .waitTx i :: fs := by
  unfold sendLeft
  split <;> exact ⟨_, rfl⟩

/-- With room for all, the operation completes and restores the mask bit. -/
theorem TxSide.sends (h : TxSide s i tx) (ht : (s.uart.get i).ucon.tst = false) (hroom : tx.count < txFree s i)
    {k : Nat} (hk : 4 * tx.count + 5 ≤ k) : goOn k (s.push (sendLeft i byte saved tx.count)) =
      ((s.sent i tx byte).setMask i .mtxr saved).returned 0x31 2 0 := by
  have htst : ((s.sent i tx byte).uart.get i).ucon.tst = false := by
    simpa only [State.sent, Pair.get_set, if_true] using ht
  exact ((h.sendAll hroom).trans (Runs.setMask (s := s.sent i tx byte) .mtxr saved h.mode htst)).returned hk

/-- With room for no more than the buffered bytes, the operation hands over what fits and waits. -/
theorem TxSide.sendsSome (h : TxSide s i tx) (hroom : txFree s i ≤ tx.count) {k : Nat} (hk : 4 * tx.count + 1 ≤ k) :
    goOn k (s.push (sendLeft i byte saved tx.count)) =
      (s.handedOver i tx (txFree s i)).push (sendLeft i byte saved (tx.count - txFree s i)) := by
  obtain ⟨fs, hfs⟩ := sendLeft_eq_cons i byte saved (tx.count - txFree s i)
  have out := TxSide.handOver (byte := byte) (saved := saved) (txFree s i) h hroom le_rfl
  rw [hfs] at out ⊢
  refine out.rests (frame_waitTx_of_full (s := s.handedOver i tx (txFree s i)) h.mode ?_) (by omega)
  rw [txFree_handedOver hroom, Nat.sub_self]

end SendLoop

theorem txFree_setMask (s : State) (i : Uid) (m : MaskBit) (b : Bool) : txFree (s.setMask i m b) i = txFree s i := by
  simp only [txFree, State.setMask, State.setUart_uart, State.setUart_params, Pair.get_set, if_true]

section SendByte

variable {s : State} {i : Uid} {tx rx : Cb} {byte : Word}

theorem frame_sendByteSave (i : Uid) (b : Byte) (fs : List Frame) (hm : s.mode = .privileged) :
    frame (.sendByteSave i b) (s.push fs) =
      .go (s.push (.maskRead i .mtxr true :: .sendByteDrain i b (s.uart.get i).ucon.mtxr :: fs)) := by
  simp only [frame, regRead_ucon (s := s.push fs) i hm, Res.map_ok, Micro.ofRes, (bitOf_uconWord _).2]
  rfl

/-- `uart.send_byte` saves the mask bit, masks, and comes to its loop. -/
theorem Driver.beginSendByte (h : Driver s i rx tx) : Runs 4 (s.push [.sendByteSave i (lowByte byte)])
    ((s.setMask i .mtxr true).push (sendLeft i byte (s.uart.get i).ucon.mtxr tx.count)) :=
  ((Runs.frame (frame_sendByteSave i _ [] h.mode)).trans (Runs.setMask .mtxr true h.mode h.noLoopback)).trans
    h.txSide.drain

theorem Driver.exec_uartSendByte (h : Driver s i rx tx) (hb : s.atStart = true) (byte : Word) :
    exec (.uartSendByte (BitVec.ofNat 32 i.toNat) byte) s =
      .next (goOn (s.slice + 1) (s.push [.sendByteSave i (lowByte byte)])) :=
  (Machine.exec_uartSendByte s i byte).trans (operation_initialized hb h.initialized (frame_sendByteSave i _ [] h.mode))

/-- An operation that waits goes on with its steps. -/
theorem exec_uartSendByte_resumes {saved : Bool} {n : Nat} {fs : List Frame}
    (htodo : s.cur.todo = sendLeft i byte saved n ++ fs) :
    exec (.uartSendByte (BitVec.ofNat 32 i.toNat) byte) s = burst ((s.setTodo fs).push (sendLeft i byte saved n)) := by
  obtain ⟨gs, hgs⟩ := sendLeft_eq_cons i byte saved n
  have inside : s.atStart = false := by rw [State.atStart, htodo, hgs]; rfl
  rw [exec_uartSendByte, operation_resumes inside, State.push_setTodo_of_todo htodo]

end SendByte

/-- Settles O43: from the beginning and from a wait the operation comes to its loop, which hands over what fits and
then completes or waits. -/
theorem uartSendByteFlushes : Obligations.UartSendByteFlushes := by
  intro s i byte
  refine ⟨fun rx tx hb h hslice => ⟨fun hroom => ?sends, fun hroom => ?stops⟩,
    fun saved n fs htodo hm hroom => ?waits, fun rx tx saved fs htodo h hmask hslice => ?resumed⟩
  case sends =>
    rw [h.exec_uartSendByte hb]
    have run := h.beginSendByte.goOn_eq (fun j hj => h.txSide.sends (byte := byte)
      ((State.setMask_tst ..).trans h.noLoopback) (by rwa [txFree_setMask]) hj) (k := s.slice + 1) (by omega)
    rw [run]
    refine congrArg (fun t : State => Host.Outcome.next (t.returned 0x31 2 0)) ?_
    simp only [State.setMask, State.setUart, State.sent, Pair.get_set, Pair.set_set, if_true, Ucon.withMask]
    rfl
  case stops =>
    rw [h.exec_uartSendByte hb]
    have run := h.beginSendByte.goOn_eq (fun j hj => h.txSide.sendsSome (byte := byte)
      (by rwa [txFree_setMask]) hj) (k := s.slice + 1) (by omega)
    rw [run, txFree_setMask]
    simp only [State.setMask, State.setUart, State.handedOver, Pair.get_set, Pair.set_set, if_true, Ucon.withMask]
    rfl
  case waits =>
    obtain ⟨gs, hgs⟩ := sendLeft_eq_cons i byte saved n
    have rests : burst ((s.setTodo fs).push (.waitTx i :: gs)) = .next ((s.setTodo fs).push (.waitTx i :: gs)) :=
      burst_rest (frame_waitTx_of_full (s := s.setTodo fs) (fs := gs) hm hroom)
    rw [exec_uartSendByte_resumes htodo, hgs, rests, ← hgs, State.push_setTodo_of_todo htodo]
  case resumed =>
    have side : TxSide (s.setTodo fs) i tx := ⟨h.mode, h.txDepth, h.txAt, h.txValid, h.txInv, .inr hmask⟩
    have begins (hroom : 0 < txFree s i) : exec (.uartSendByte (BitVec.ofNat 32 i.toNat) byte) s =
        .next (goOn (s.slice + 1) ((s.setTodo fs).push (sendLeft i byte saved tx.count))) := by
      obtain ⟨gs, hgs⟩ := sendLeft_eq_cons i byte saved tx.count
      rw [exec_uartSendByte_resumes htodo, hgs]
      exact burst_eq_goOn (frame_waitTx_of_room (s := s.setTodo fs) h.mode h.txDepth hroom)
    refine ⟨fun hroom => ?_, fun hpos hroom => ?_⟩
    · rw [begins (by rw [txFree]; omega), side.sends h.noLoopback hroom (by omega)]
      refine congrArg (fun t : State => Host.Outcome.next (t.returned 0x31 2 0)) ?_
      simp only [State.setMask, State.setUart, State.sent, Pair.get_set, Pair.set_set, if_true, Ucon.withMask]
      rfl
    · rw [begins hpos, side.sendsSome hroom (by omega)]
      rfl

end Sys2Proof.Machine
end

section
/-! PROOF. The blocking receive (45 R344): the buffered byte, the FIFO's byte, and the wait for one. -/

namespace Sys2Proof.Machine

section ReceiveByte

variable {s : State} {i : Uid} {tx rx : Cb} {saved : Bool} {fs : List Frame}

/-- 43 R256: the oldest byte of the receive buffer is taken. -/
theorem RxSide.cbRead (h : RxSide s i rx) (hc : rx.count ≠ 0) (fs : List Frame) :
    Machine.cbRead (s.push fs) (rxBuffer i) = .ok (rx.front, (s.setCb (rxBuffer i) rx.drop).push fs) := by
  rw [Machine.cbRead, show Machine.bufferAt (s.push fs) (rxBuffer i) = _ from h.bufferAt, Res.bind_ok,
    Cb.empty_of_count_ne_zero hc]
  rfl

theorem frame_recvByteSave (i : Uid) (fs : List Frame) (hm : s.mode = .privileged) :
    frame (.recvByteSave i) (s.push fs) =
      .go (s.push (.maskRead i .mrxr true :: .recvByteTest i (s.uart.get i).ucon.mrxr :: fs)) := by
  simp only [frame, regRead_ucon (s := s.push fs) i hm, Res.map_ok, Micro.ofRes, (bitOf_uconWord _).1]
  rfl

/-- The test of the buffer goes on with the buffered byte or with the wait. -/
theorem RxSide.recvByteTest (h : RxSide s i rx) : Runs 1 (s.push [.recvByteTest i saved])
    (s.push (if rx.count = 0 then [.waitRx i, .recvByteData i saved] else [.recvBytePop i saved])) := by
  refine Runs.frame ?_
  have hempty : cbIsEmpty (s.push []) (rxBuffer i) = .ok rx.empty := by
    rw [cbIsEmpty, show Machine.bufferAt (s.push []) (rxBuffer i) = _ from h.bufferAt]
    rfl
  simp only [frame, hempty, Res.map_ok, Micro.ofRes, Cb.empty, beq_iff_eq]
  rfl

/-- `uart.receive_byte` saves the mask bit, masks, and tests the buffer. -/
theorem Driver.beginReceiveByte (h : Driver s i rx tx) : Runs 4 (s.push [.recvByteSave i])
    ((s.setMask i .mrxr true).push (if rx.count = 0 then [.waitRx i, .recvByteData i (s.uart.get i).ucon.mrxr]
      else [.recvBytePop i (s.uart.get i).ucon.mrxr])) :=
  ((Runs.frame (frame_recvByteSave i [] h.mode)).trans (Runs.setMask .mrxr true h.mode h.noLoopback)).trans
    h.rxSide.recvByteTest

theorem Driver.exec_uartReceiveByte (h : Driver s i rx tx) (hb : s.atStart = true) :
    exec (.uartReceiveByte (BitVec.ofNat 32 i.toNat)) s = .next (goOn (s.slice + 1) (s.push [.recvByteSave i])) :=
  (Machine.exec_uartReceiveByte s i).trans (operation_initialized hb h.initialized (frame_recvByteSave i [] h.mode))

/-- The end of the operation restores the mask bit and returns the byte. -/
theorem goOn_recvByteEnd {b : Byte} (hm : s.mode = .privileged) (ht : (s.uart.get i).ucon.tst = false) {k : Nat}
    (hk : 3 ≤ k) : goOn k (s.push (recvByteEnd i saved b)) =
      (s.setMask i .mrxr saved).returned 0x32 1 (zextByte b) :=
  (Runs.setMask .mrxr saved hm ht).returned hk

theorem RxSide.recvBytePop (h : RxSide s i rx) (hc : rx.count ≠ 0) : Runs 1 (s.push [.recvBytePop i saved])
    ((s.setCb (rxBuffer i) rx.drop).push (recvByteEnd i saved rx.front)) := by
  refine Runs.frame ?_
  simp only [frame, h.cbRead hc, Res.map_ok, Micro.ofRes]
  rfl

/-- A byte in the receive FIFO ends the wait. -/
theorem Runs.recvByteData {x : Byte} {q : List Byte} (hm : s.mode = .privileged)
    (hd : (s.uart.get i).rxfifo.length ≤ 63) (hx : (s.uart.get i).rxfifo = x :: q) :
    Runs 2 (s.push [.waitRx i, .recvByteData i saved])
      ((s.setUart i { s.uart.get i with rxfifo := q }).push (recvByteEnd i saved x)) := by
  have wait := frame_waitRx_of_byte (fs := [.recvByteData i saved]) hm hd (by simp [hx])
  refine (Runs.frame wait).trans (Runs.frame ?_)
  simp only [Machine.frame, regRead_udata (s := s.push []) hm hx, Res.map_ok, Micro.ofRes, lowByte_zextByte]
  rfl

/-- From the wait with a byte in the FIFO the operation completes. -/
theorem goOn_waitRx {x : Byte} {q : List Byte} (hm : s.mode = .privileged) (ht : (s.uart.get i).ucon.tst = false)
    (hd : (s.uart.get i).rxfifo.length ≤ 63) (hx : (s.uart.get i).rxfifo = x :: q) {k : Nat} (hk : 5 ≤ k) :
    goOn k (s.push [.waitRx i, .recvByteData i saved]) =
      ((s.setUart i { s.uart.get i with rxfifo := q }).setMask i .mrxr saved).returned 0x32 1 (zextByte x) := by
  refine (Runs.recvByteData hm hd hx).goOn_eq (m := 3) (fun j hj => ?_) hk
  exact goOn_recvByteEnd (s := s.setUart i { s.uart.get i with rxfifo := q }) hm
    (by simpa only [State.setUart_uart, Pair.get_set, if_true] using ht) hj

end ReceiveByte

/-- Settles O44: after the test of the buffer the operation takes the buffered byte, or comes to its wait, which it
passes with the FIFO's byte. -/
theorem uartReceiveByteTakesOldest : Obligations.UartReceiveByteTakesOldest := by
  intro s i
  refine ⟨fun rx tx hb h hslice => ⟨fun x q hx => ?buffered, fun x q hempty hx => ?hardware, fun hempty hx => ?waits⟩,
    fun saved fs htodo hm ht hd hslice => ?resumed⟩
  case buffered =>
    have hc : rx.count ≠ 0 := fun h0 => by simp [(Cb.bytes_eq_nil_iff rx).mpr h0] at hx
    obtain rfl : rx.front = x := by
      rw [Cb.bytes_eq_cons h.rxValid h.rxInv hc] at hx
      exact (List.cons.inj hx).1
    have begins := h.beginReceiveByte
    rw [if_neg hc] at begins
    have run := (begins.trans (h.rxSide.recvBytePop hc)).goOn_eq (k := s.slice + 1) (fun j hj =>
      goOn_recvByteEnd (s := (s.setMask i .mrxr true).setCb (rxBuffer i) rx.drop) h.mode
        ((State.setMask_tst ..).trans h.noLoopback) hj) (by omega)
    rw [h.exec_uartReceiveByte hb, run]
    refine congrArg (fun t : State => Host.Outcome.next (t.returned 0x32 1 _)) ?_
    exact (State.setMask_setMask (s.setCb (rxBuffer i) rx.drop) i .mrxr true _).trans
      (State.setMask_mrxr_self (s.setCb (rxBuffer i) rx.drop) i)
  case hardware =>
    have begins := h.beginReceiveByte
    rw [if_pos ((Cb.bytes_eq_nil_iff rx).mp hempty)] at begins
    have hfifo : ((s.setMask i .mrxr true).uart.get i).rxfifo = (s.uart.get i).rxfifo := by
      simp only [State.setMask, State.setUart_uart, Pair.get_set, if_true]
    have run := begins.goOn_eq (k := s.slice + 1) (fun j hj =>
      goOn_waitRx (s := s.setMask i .mrxr true) h.mode ((State.setMask_tst ..).trans h.noLoopback)
        (hfifo ▸ h.rxLevel) (hfifo.trans hx) hj) (by omega)
    rw [h.exec_uartReceiveByte hb, run]
    refine congrArg (fun t : State => Host.Outcome.next (t.returned 0x32 1 _)) ?_
    simp only [State.setMask, State.setUart, Pair.get_set, Pair.set_set, if_true, Ucon.withMask]
  case waits =>
    have begins := h.beginReceiveByte
    rw [if_pos ((Cb.bytes_eq_nil_iff rx).mp hempty)] at begins
    have hfifo : ((s.setMask i .mrxr true).uart.get i).rxfifo = [] := by
      simpa only [State.setMask, State.setUart_uart, Pair.get_set, if_true] using hx
    have run := begins.rests (k := s.slice + 1)
      (frame_waitRx_of_empty (s := s.setMask i .mrxr true) h.mode hfifo) (by omega)
    rw [h.exec_uartReceiveByte hb, run]
    rfl
  case resumed =>
    have inside : s.atStart = false := by rw [State.atStart, htodo]
    have resumes : exec (.uartReceiveByte (BitVec.ofNat 32 i.toNat)) s =
        burst ((s.setTodo fs).push [.waitRx i, .recvByteData i saved]) := by
      rw [exec_uartReceiveByte, operation_resumes inside, State.push_setTodo_of_todo htodo]
    refine ⟨fun x q hx => ?_, fun hx => ?_⟩
    · have goes : burst ((s.setTodo fs).push [.waitRx i, .recvByteData i saved]) =
          .next (goOn (s.slice + 1) ((s.setTodo fs).push [.waitRx i, .recvByteData i saved])) :=
        burst_eq_goOn (frame_waitRx_of_byte (s := s.setTodo fs) (fs := [.recvByteData i saved]) hm hd
          (show (s.uart.get i).rxfifo ≠ [] by simp [hx]))
      rw [resumes, goes]
      refine (congrArg _ (goOn_waitRx (s := s.setTodo fs) hm ht hd hx (by omega))).trans ?_
      refine congrArg (fun t : State => Host.Outcome.next (t.returned 0x32 1 _)) ?_
      simp only [State.setMask, State.setUart, Pair.get_set, Pair.set_set, if_true, Ucon.withMask]
      rfl
    · have rests : burst ((s.setTodo fs).push [.waitRx i, .recvByteData i saved]) =
          .next ((s.setTodo fs).push [.waitRx i, .recvByteData i saved]) :=
        burst_rest (frame_waitRx_of_empty (s := s.setTodo fs) (fs := [.recvByteData i saved]) hm hx)
      rw [resumes, rests, State.push_setTodo_of_todo htodo]

end Sys2Proof.Machine
end

section
/-! PROOF. The bulk transfers (45 R345, R346): a byte's three steps, the loops, and where they end or stop. -/

namespace Sys2Proof.Machine

/-! ### Buffers that grow and shrink by several bytes -/

namespace Cb

variable {b c : Cb}

/-- `c` is `b` with `bs` written to it. -/
structure Extends (b : Cb) (bs : List Byte) (c : Cb) : Prop where
  bytes : c.bytes = b.bytes ++ bs
  valid : c.valid = true
  cap : c.cap = b.cap
  base : c.base = b.base
  inv : c.Inv

theorem Extends.refl (hv : b.valid = true) (hi : b.Inv) : b.Extends [] b := ⟨by simp, hv, rfl, rfl, hi⟩

theorem Extends.count {bs : List Byte} (h : b.Extends bs c) : c.count = b.count + bs.length := by
  have hlen := congrArg List.length h.bytes
  simpa using hlen

/-- A put, and then the rest. -/
theorem Extends.cons {v : Byte} {bs : List Byte} (hv : b.valid = true) (hi : b.Inv) (hroom : b.count < b.cap)
    (h : (b.put v).Extends bs c) : b.Extends (v :: bs) c where
  bytes := by rw [h.bytes, bytes_put hv hi hroom, List.append_assoc, List.singleton_append]
  valid := h.valid
  cap := h.cap
  base := h.base
  inv := h.inv

theorem dropN_drop (b : Cb) (n : Nat) : (b.dropN n).drop = b.dropN (n + 1) := by
  simp only [dropN, drop, Nat.mod_add_mod, Nat.add_assoc, Nat.sub_sub]

theorem dropN_spec (n : Nat) : ∀ {b : Cb}, b.valid = true → b.Inv → n ≤ b.count →
    (b.dropN n).Inv ∧ (b.dropN n).bytes = b.bytes.drop n := by
  induction n with
  | zero =>
    intro b hv hi _
    rw [dropN_zero hv hi]
    exact ⟨hi, rfl⟩
  | succ n ih =>
    intro b hv hi hn
    have hc : b.count ≠ 0 := by omega
    obtain ⟨hinv, hbytes⟩ := ih (b := b.drop) hv (inv_drop hv (empty_of_count_ne_zero hc) hi) (Nat.le_sub_one_of_lt hn)
    rw [drop_dropN] at hinv hbytes
    rw [bytes_eq_cons hv hi hc, List.drop_succ_cons]
    exact ⟨hinv, hbytes⟩

end Cb

theorem State.setCb_self {s : State} {h : Nat} {b : Cb} (hb : s.cb[h]? = some b) : s.setCb h b = s :=
  congrArg (fun cb => { s with cb := cb }) (set_getElem?_self hb)

theorem State.setCb_setCb (s : State) (h : Nat) (b c : Cb) : (s.setCb h b).setCb h c = s.setCb h c :=
  congrArg (fun cb => { s with cb := cb }) (List.set_set ..)

/-! ### `uart.send` (45 R345) -/

theorem TxSide.setCb {s : State} {i : Uid} {tx tx' : Cb} (h : TxSide s i tx) (hv : tx'.valid = true) (hi : tx'.Inv) :
    TxSide (s.setCb (txBuffer i) tx') i tx' :=
  ⟨h.mode, h.depth, List.getElem?_set_self (List.getElem?_eq_some_iff.mp h.buffer).1, hv, hi, h.mayTouch⟩

theorem toNat_ofNat_of_le {n : Nat} {w : Word} (h : n ≤ w.toNat) : (BitVec.ofNat 32 n).toNat = n := by
  rw [BitVec.toNat_ofNat, Nat.mod_eq_of_lt (h.trans_lt w.isLt)]

section Send

variable {s : State} {i : Uid} {tx rx : Cb} {buf count : Word} {n : Nat}

theorem sendNext_of_lt (h : n < count.toNat) :
    sendNext i buf count (BitVec.ofNat 32 n) (n < count.toNat) = [.sendTest i buf count (BitVec.ofNat 32 n)] := by
  simp only [sendNext, h, decide_true, if_true]

/-- With room the loop goes on with the load of a byte. -/
theorem TxSide.sendTest (h : TxSide s i tx) (hroom : tx.count < tx.cap) (w : Word) :
    Runs 1 (s.push [.sendTest i buf count w]) (s.push [.sendLoad i buf count w]) := by
  refine Runs.frame ?_
  have hfull : cbIsFull (s.push []) (txBuffer i) = .ok false := by
    rw [cbIsFull, show Machine.bufferAt (s.push []) (txBuffer i) = _ from h.bufferAt, Res.map_ok, Cb.full_of_lt hroom]
  simp only [frame, hfull, Res.map_ok, Micro.ofRes]
  rfl

/-- With a full buffer the loop ends. -/
theorem TxSide.sendTest_full (h : TxSide s i tx) (hfull : tx.count = tx.cap) (w : Word) :
    Runs 1 (s.push [.sendTest i buf count w]) (s.push (sendNext i buf count w false)) := by
  refine Runs.frame ?_
  have hfull : cbIsFull (s.push []) (txBuffer i) = .ok true := by
    rw [cbIsFull, show Machine.bufferAt (s.push []) (txBuffer i) = _ from h.bufferAt, Res.map_ok, Cb.full, hfull,
      beq_self_eq_true]
  simp only [frame, hfull, Res.map_ok, Micro.ofRes]
  rfl

/-- A byte that can be read is put into the buffer. -/
theorem TxSide.sendByte (h : TxSide s i tx) (hroom : tx.count < tx.cap) (hn : n < count.toNat) {b : Byte}
    (hb : memRead s (buf + BitVec.ofNat 32 n) = .ok b) :
    Runs 3 (s.push (sendNext i buf count (BitVec.ofNat 32 n) (n < count.toNat)))
      ((s.setCb (txBuffer i) (tx.put b)).push
        (sendNext i buf count (BitVec.ofNat 32 (n + 1)) (n + 1 < count.toNat))) := by
  have load : Runs 1 (s.push [.sendLoad i buf count (BitVec.ofNat 32 n)])
      (s.push [.sendPut i buf count (BitVec.ofNat 32 n) b]) := by
    refine Runs.frame ?_
    simp only [frame, show memRead (s.push []) (buf + BitVec.ofNat 32 n) = _ from hb, Res.map_ok, Micro.ofRes]
    rfl
  have put : Runs 1 (s.push [.sendPut i buf count (BitVec.ofNat 32 n) b])
      ((s.setCb (txBuffer i) (tx.put b)).push
        (sendNext i buf count (BitVec.ofNat 32 (n + 1)) (n + 1 < count.toNat))) := by
    refine Runs.frame ?_
    have hwrite : cbWrite (s.push []) (txBuffer i) b = .ok ((s.push []).setCb (txBuffer i) (tx.put b)) := by
      rw [cbWrite, show Machine.bufferAt (s.push []) (txBuffer i) = _ from h.bufferAt, Res.bind_ok,
        Cb.full_of_lt hroom]
      rfl
    simp only [frame, hwrite, Res.map_ok, Micro.ofRes, toNat_ofNat_of_le hn.le, BitVec.ofNat_add]
    rfl
  rw [sendNext_of_lt hn]
  exact ((h.sendTest hroom _).trans load).trans put

/-- Bytes that fit and can be read are put into the buffer in order. -/
theorem TxSide.sendLoop (bs : List Byte) : ∀ {s : State} {tx : Cb} {n : Nat}, TxSide s i tx →
    tx.count + bs.length ≤ tx.cap → n + bs.length ≤ count.toNat →
    (∀ j b, bs[j]? = some b → memRead s (buf + BitVec.ofNat 32 (n + j)) = .ok b) →
    ∃ tx', tx.Extends bs tx' ∧
      Runs (3 * bs.length) (s.push (sendNext i buf count (BitVec.ofNat 32 n) (n < count.toNat)))
        ((s.setCb (txBuffer i) tx').push
          (sendNext i buf count (BitVec.ofNat 32 (n + bs.length)) (n + bs.length < count.toNat))) := by
  induction bs with
  | nil =>
    intro s tx n h _ _ _
    refine ⟨tx, Cb.Extends.refl h.valid h.inv, ?_⟩
    rw [State.setCb_self h.buffer]
    exact Runs.refl _
  | cons b bs ih =>
    intro s tx n h hfit hcount hread
    rw [List.length_cons] at hfit hcount
    have hroom : tx.count < tx.cap := by omega
    have first := h.sendByte (buf := buf) hroom (show n < count.toNat by omega) (hread 0 b rfl)
    have side := h.setCb (tx' := tx.put b) h.valid (Cb.inv_put h.valid (Cb.full_of_lt hroom) h.inv)
    obtain ⟨tx', hext, rest⟩ := ih (n := n + 1) side (by simp only [Cb.put]; omega) (by omega) fun j c hj => by
      rw [Nat.add_right_comm]
      exact hread (j + 1) c hj
    refine ⟨tx', hext.cons h.valid h.inv hroom, ?_⟩
    rw [State.setCb_setCb] at rest
    rw [List.length_cons, show n + (bs.length + 1) = n + 1 + bs.length by omega]
    exact (first.trans rest).mono (by omega)

/-- The loop ends with the count asked for, or with a full buffer. -/
theorem TxSide.sendEnds (h : TxSide s i tx) (hend : n < count.toNat → tx.count = tx.cap) :
    Runs 1 (s.push (sendNext i buf count (BitVec.ofNat 32 n) (n < count.toNat)))
      (s.push (sendNext i buf count (BitVec.ofNat 32 n) false)) := by
  by_cases hn : n < count.toNat
  · rw [sendNext_of_lt hn]
    exact h.sendTest_full (hend hn) _
  · simp only [hn, decide_false]
    exact (Runs.refl _).mono (by omega)

theorem frame_maskRead (i : Uid) (m : MaskBit) (b : Bool) (fs : List Frame) (hm : s.mode = .privileged) :
    frame (.maskRead i m b) (s.push fs) =
      .go (s.push (.regWrite (.ucon i) (setBit (s.uart.get i).ucon.word m.position b) :: fs)) := by
  simp only [frame, regRead_ucon (s := s.push fs) i hm, Res.map_ok, Micro.ofRes]
  rfl

theorem Driver.exec_uartSend (h : Driver s i rx tx) (hb : s.atStart = true) (hbuf : buf ≠ 0) (count : Word) :
    exec (.uartSend (BitVec.ofNat 32 i.toNat) buf count) s = .next (goOn (s.slice + 1)
      (s.push (.maskRead i .mtxr true :: sendNext i buf count 0 (0 < count.toNat)))) := by
  exact (Machine.exec_uartSend s i hbuf count).trans
    (operation_initialized hb h.initialized (frame_maskRead i .mtxr true _ h.mode))

/-- The operation's run through its loop. -/
theorem Driver.sendRun (h : Driver s i rx tx) {bs : List Byte} (hfits : bs.length ≤ min count.toNat (tx.cap - tx.count))
    (hread : ∀ j b, bs[j]? = some b → memRead s (buf + BitVec.ofNat 32 j) = .ok b) :
    ∃ tx', tx.Extends bs tx' ∧ Runs (2 + 3 * bs.length)
      (s.push (.maskRead i .mtxr true :: sendNext i buf count 0 (0 < count.toNat)))
      (((s.setMask i .mtxr true).setCb (txBuffer i) tx').push
        (sendNext i buf count (BitVec.ofNat 32 bs.length) (bs.length < count.toNat))) := by
  obtain ⟨-, -, hle, -⟩ := h.txInv.2 h.txValid
  obtain ⟨tx', hext, run⟩ := TxSide.sendLoop (buf := buf) (count := count) (n := 0) bs h.txSide (by omega) (by omega)
    fun j b hj => by rw [Nat.zero_add]; exact hread j b hj
  rw [Nat.zero_add] at run
  exact ⟨tx', hext, (Runs.setMask .mtxr true h.mode h.noLoopback).trans run⟩

/-- A byte that cannot be read stops the operation before its load. -/
theorem sendLoad_faults {e : Fault} {w : Word} (he : memRead s (buf + w) = .fault e) :
    frame (.sendLoad i buf count w) (s.push []) = .fault e := by
  rw [frame, show memRead (s.push []) (buf + w) = _ from he]
  rfl

theorem exec_uartSend_faults {e : Fault} {w : Word} (hbuf : buf ≠ 0) (he : memRead s (buf + w) = .fault e) :
    exec (.uartSend (BitVec.ofNat 32 i.toNat) buf count) (s.push [.sendLoad i buf count w]) = .fault e :=
  (Machine.exec_uartSend _ i hbuf count).trans ((operation_resumes rfl).trans (burst_fault (sendLoad_faults he)))

end Send

theorem memRead_unwritten {s : State} {a : Word} (hin : inRam a.toNat = true) (hget : s.mem.get a.toNat = none) :
    memRead s a = .fault .unwrittenMemory := by
  rw [memRead, if_pos hin, hget]

theorem memRead_outside {s : State} {a : Word} (hin : inRam a.toNat = false) : memRead s a = .fault .noStep :=
  if_neg (Bool.eq_false_iff.mp hin)

/-- Settles O45: the loop puts the bytes in order, ends at the count or at a full buffer, and stops before a byte it
cannot read. -/
theorem uartSendEnqueues : Obligations.UartSendEnqueues := by
  intro s i buf count rx tx bs hb h hbuf hread hslice
  have hread : ∀ j b, bs[j]? = some b → memRead s (buf + BitVec.ofNat 32 j) = .ok b :=
    fun j b hj => memRead_spec.mpr (hread j b hj)
  refine ⟨fun hlen => ?completes, fun hlen hstop => ?stops⟩
  case completes =>
    obtain ⟨-, -, hle, -⟩ := h.txInv.2 h.txValid
    obtain ⟨tx', hext, run⟩ := h.sendRun (buf := buf) hlen.le hread
    have toEnd := (h.txSide.setCb hext.valid hext.inv).sendEnds (buf := buf) (count := count) (n := bs.length)
      fun hlt => by rw [hext.count, hext.cap]; omega
    have unmask := Runs.setMask (s := (s.setMask i .mtxr true).setCb (txBuffer i) tx')
      (fs := [.finish 0x33 3 (some (BitVec.ofNat 32 bs.length)) none]) .mtxr false h.mode
      ((State.setMask_tst ..).trans h.noLoopback)
    have done := ((run.trans toEnd).trans unmask).returned (k := s.slice + 1) (by omega)
    refine ⟨tx', hext.bytes, hext.valid, hext.cap, hext.base, hext.inv, ?_⟩
    rw [h.exec_uartSend hb hbuf, done]
    exact congrArg (fun t : State => Host.Outcome.next (t.returned 0x33 3 _))
      (State.setMask_setMask (s.setCb (txBuffer i) tx') i .mtxr true false)
  case stops =>
    obtain ⟨tx', hext, run⟩ := h.sendRun (buf := buf) hlen.le hread
    rw [sendNext_of_lt (by omega)] at run
    have run := run.trans ((h.txSide.setCb hext.valid hext.inv).sendTest (by rw [hext.count, hext.cap]; omega) _)
    obtain ⟨e, he⟩ : ∃ e, memRead s (buf + BitVec.ofNat 32 bs.length) = .fault e := by
      cases hin : inRam (buf + BitVec.ofNat 32 bs.length).toNat
      · exact ⟨_, memRead_outside hin⟩
      · exact ⟨_, memRead_unwritten hin (hstop hin)⟩
    refine ⟨tx', hext.bytes, hext.valid, hext.cap, hext.base, hext.inv, ?_,
      fun hin => exec_uartSend_faults (s := (s.setMask i .mtxr true).setCb (txBuffer i) tx') hbuf
        (memRead_unwritten hin (hstop hin)),
      fun hin => exec_uartSend_faults (s := (s.setMask i .mtxr true).setCb (txBuffer i) tx') hbuf
        (memRead_outside hin)⟩
    rw [h.exec_uartSend hb hbuf, run.faults (sendLoad_faults
      (s := (s.setMask i .mtxr true).setCb (txBuffer i) tx') he) (by omega)]
    rfl

end Sys2Proof.Machine
end

section
/-! PROOF. The bulk receive (45 R346): the stores at `buf` and on, the loop, and the stop outside RAM. -/

namespace Sys2Proof.Machine

/-! ### Bytes stored at consecutive addresses -/

/-- The memory once `bs` are stored at `(buf + n) mod 2^32` and on. -/
def Mem.storeBytes (buf : Word) : Nat → List Byte → Mem → Mem
  | _, [], m => m
  | n, b :: bs, m => Mem.storeBytes buf (n + 1) bs (m.set (buf + BitVec.ofNat 32 n).toNat b)

theorem Mem.get_storeBytes_other {buf : Word} {a : Nat} (bs : List Byte) : ∀ {n : Nat} {m : Mem},
    (∀ j, j < bs.length → a ≠ (buf + BitVec.ofNat 32 (n + j)).toNat) → (m.storeBytes buf n bs).get a = m.get a := by
  induction bs with
  | nil => exact fun _ => rfl
  | cons b bs ih =>
    intro n m hne
    have rest := ih (n := n + 1) (m := m.set (buf + BitVec.ofNat 32 n).toNat b) fun j hj => by
      rw [Nat.add_right_comm]
      exact hne (j + 1) (Nat.succ_lt_succ hj)
    rw [Mem.storeBytes, rest, Mem.get_set]
    exact if_neg (hne 0 (Nat.succ_pos _))

/-- Offsets below 2^32 give different addresses. -/
theorem toNat_add_ofNat_ne {buf : Word} {m n : Nat} (hm : m < 2 ^ 32) (hn : n < 2 ^ 32) (hne : m ≠ n) :
    (buf + BitVec.ofNat 32 m).toNat ≠ (buf + BitVec.ofNat 32 n).toNat := by
  intro h
  have heq := congrArg BitVec.toNat (add_left_cancel (BitVec.eq_of_toNat_eq h))
  rw [BitVec.toNat_ofNat, BitVec.toNat_ofNat, Nat.mod_eq_of_lt hm, Nat.mod_eq_of_lt hn] at heq
  exact hne heq

theorem Mem.get_storeBytes {buf : Word} (bs : List Byte) : ∀ {n : Nat} {m : Mem}, n + bs.length ≤ 2 ^ 32 →
    ∀ j, j < bs.length → (m.storeBytes buf n bs).get (buf + BitVec.ofNat 32 (n + j)).toNat = bs[j]? := by
  induction bs with
  | nil => exact fun _ j hj => nomatch hj
  | cons b bs ih =>
    intro n m hlen j hj
    rw [List.length_cons] at hlen hj
    rw [Mem.storeBytes]
    cases j with
    | zero =>
      rw [Nat.add_zero, Mem.get_storeBytes_other bs fun j hj => toNat_add_ofNat_ne (by omega) (by omega) (by omega),
        Mem.get_set]
      exact if_pos rfl
    | succ j =>
      rw [show n + (j + 1) = n + 1 + j by omega, ih (by omega) j (by omega)]
      rfl

/-! ### `uart.receive` (45 R346) -/

/-- The state once the oldest `n` bytes of the receive buffer are in memory, from offset `p` on. -/
def State.stored (s : State) (i : Uid) (rx : Cb) (buf : Word) (p n : Nat) : State :=
  { s with
    cb := s.cb.set (rxBuffer i) (rx.dropN n)
    mem := s.mem.storeBytes buf p (rx.bytes.take n) }

section Receive

variable {s : State} {i : Uid} {tx rx : Cb} {buf count : Word} {p n : Nat}

theorem recvNext_of_lt (h : p < count.toNat) :
    recvNext i buf count (BitVec.ofNat 32 p) (p < count.toNat) = [.recvTest i buf count (BitVec.ofNat 32 p)] := by
  simp only [recvNext, h, decide_true, if_true]

theorem RxSide.stored (h : RxSide s i rx) (hn : n ≤ rx.count) : RxSide (s.stored i rx buf p n) i (rx.dropN n) where
  mode := h.mode
  buffer := List.getElem?_set_self (List.getElem?_eq_some_iff.mp h.buffer).1
  valid := h.valid
  inv := (Cb.dropN_spec n h.valid h.inv hn).1
  mayTouch := h.mayTouch

theorem RxSide.stored_zero (h : RxSide s i rx) : s.stored i rx buf p 0 = s := by
  rw [State.stored, Cb.dropN_zero h.valid h.inv, set_getElem?_self h.buffer]
  rfl

/-- With a byte in the buffer the loop takes it and goes on with its store. -/
theorem RxSide.recvPop (h : RxSide s i rx) (hc : rx.count ≠ 0) (w : Word) : Runs 2 (s.push [.recvTest i buf count w])
    ((s.setCb (rxBuffer i) rx.drop).push [.recvStore i buf count w rx.front]) := by
  have test : Runs 1 (s.push [.recvTest i buf count w]) (s.push [.recvPop i buf count w]) := by
    refine Runs.frame ?_
    have hempty : cbIsEmpty (s.push []) (rxBuffer i) = .ok false := by
      rw [cbIsEmpty, show Machine.bufferAt (s.push []) (rxBuffer i) = _ from h.bufferAt, Res.map_ok,
        Cb.empty_of_count_ne_zero hc]
    simp only [frame, hempty, Res.map_ok, Micro.ofRes]
    rfl
  refine test.trans (Runs.frame ?_)
  simp only [frame, h.cbRead hc, Res.map_ok, Micro.ofRes]
  rfl

/-- The loop ends with the count asked for, or with an empty buffer. -/
theorem RxSide.recvEnds (h : RxSide s i rx) (hend : p < count.toNat → rx.count = 0) :
    Runs 1 (s.push (recvNext i buf count (BitVec.ofNat 32 p) (p < count.toNat)))
      (s.push (recvNext i buf count (BitVec.ofNat 32 p) false)) := by
  by_cases hp : p < count.toNat
  · rw [recvNext_of_lt hp]
    refine Runs.frame ?_
    have hempty : cbIsEmpty (s.push []) (rxBuffer i) = .ok true := by
      rw [cbIsEmpty, show Machine.bufferAt (s.push []) (rxBuffer i) = _ from h.bufferAt, Res.map_ok, Cb.empty, hend hp]
      rfl
    simp only [frame, hempty, Res.map_ok, Micro.ofRes]
    rfl
  · simp only [hp, decide_false]
    exact (Runs.refl _).mono (by omega)

/-- A byte whose address is in RAM is stored there. -/
theorem RxSide.recvByte (h : RxSide s i rx) (hc : rx.count ≠ 0) (hp : p < count.toNat)
    (hin : inRam (buf + BitVec.ofNat 32 p).toNat = true) :
    Runs 3 (s.push (recvNext i buf count (BitVec.ofNat 32 p) (p < count.toNat)))
      ((s.stored i rx buf p 1).push (recvNext i buf count (BitVec.ofNat 32 (p + 1)) (p + 1 < count.toNat))) := by
  have hstored : s.stored i rx buf p 1 = { s.setCb (rxBuffer i) rx.drop with
      mem := s.mem.set (buf + BitVec.ofNat 32 p).toNat rx.front } := by
    rw [State.stored, Cb.bytes_eq_cons h.valid h.inv hc]
    rfl
  rw [recvNext_of_lt hp, hstored]
  refine (h.recvPop hc _).trans (Runs.frame ?_)
  simp only [frame, memWrite, if_pos hin, Res.map_ok, Micro.ofRes, toNat_ofNat_of_le hp.le, BitVec.ofNat_add]
  rfl

theorem RxSide.stored_succ (h : RxSide s i rx) (hc : rx.count ≠ 0) (n : Nat) :
    (s.stored i rx buf p 1).stored i rx.drop buf (p + 1) n = s.stored i rx buf p (n + 1) := by
  simp only [State.stored, List.set_set, Cb.drop_dropN, Cb.bytes_eq_cons h.valid h.inv hc, List.take_succ_cons,
    List.take_zero, Mem.storeBytes]

/-- Bytes whose addresses are in RAM are stored in order. -/
theorem RxSide.recvLoop (n : Nat) : ∀ {s : State} {rx : Cb} {p : Nat}, RxSide s i rx → n ≤ rx.count →
    p + n ≤ count.toNat → (∀ j, j < n → inRam (buf + BitVec.ofNat 32 (p + j)).toNat = true) →
    Runs (3 * n) (s.push (recvNext i buf count (BitVec.ofNat 32 p) (p < count.toNat)))
      ((s.stored i rx buf p n).push (recvNext i buf count (BitVec.ofNat 32 (p + n)) (p + n < count.toNat))) := by
  induction n with
  | zero =>
    intro s rx p h _ _ _
    rw [h.stored_zero]
    exact Runs.refl _
  | succ n ih =>
    intro s rx p h hn hcount hin
    have hc : rx.count ≠ 0 := by omega
    have first := h.recvByte (buf := buf) (count := count) (p := p) hc (by omega) (hin 0 (Nat.succ_pos _))
    have side : RxSide (s.stored i rx buf p 1) i rx.drop := h.stored (n := 1) (by omega)
    have rest := ih (p := p + 1) side (Nat.le_sub_one_of_lt hn) (by omega) fun j hj => by
      rw [Nat.add_right_comm]
      exact hin (j + 1) (Nat.succ_lt_succ hj)
    rw [h.stored_succ hc, show p + 1 + n = p + (n + 1) by omega] at rest
    exact (first.trans rest).mono (by omega)

theorem Driver.exec_uartReceive (h : Driver s i rx tx) (hb : s.atStart = true) (hbuf : buf ≠ 0) (count : Word) :
    exec (.uartReceive (BitVec.ofNat 32 i.toNat) buf count) s = .next (goOn (s.slice + 1)
      (s.push (.maskRead i .mrxr true :: recvNext i buf count 0 (0 < count.toNat)))) :=
  (Machine.exec_uartReceive s i hbuf count).trans
    (operation_initialized hb h.initialized (frame_maskRead i .mrxr true _ h.mode))

/-- The operation's run through its loop. -/
theorem Driver.receiveRun (h : Driver s i rx tx) (hn : n ≤ min count.toNat rx.count)
    (hin : ∀ j, j < n → inRam (buf + BitVec.ofNat 32 j).toNat = true) : Runs (2 + 3 * n)
      (s.push (.maskRead i .mrxr true :: recvNext i buf count 0 (0 < count.toNat)))
      (((s.setMask i .mrxr true).stored i rx buf 0 n).push
        (recvNext i buf count (BitVec.ofNat 32 n) (n < count.toNat))) := by
  have run := RxSide.recvLoop (buf := buf) (count := count) (p := 0) n h.rxSide (by omega) (by omega)
    fun j hj => by rw [Nat.zero_add]; exact hin j hj
  rw [Nat.zero_add] at run
  exact (Runs.setMask .mrxr true h.mode h.noLoopback).trans run

/-- 20 R86: an address outside RAM stops the operation before its store. -/
theorem recvStore_outside {w : Word} {b : Byte} (hout : inRam (buf + w).toNat = false) :
    frame (.recvStore i buf count w b) (s.push []) = .fault .noStep := by
  simp only [frame, memWrite, if_neg (Bool.eq_false_iff.mp hout), Res.map_fault, Micro.ofRes]

end Receive

/-- What `n` bytes received at `buf` leave in memory, in the statement's terms. -/
theorem get_received {m : Mem} {buf : Word} {rx : Cb} {n : Nat} (hn : n ≤ rx.count) (hlen : n ≤ 2 ^ 32) :
    (∀ j, j < n → (m.storeBytes buf 0 (rx.bytes.take n)).get (buf + BitVec.ofNat 32 j).toNat = rx.bytes[j]?) ∧
    (∀ a, (∀ j, j < n → a ≠ (buf + BitVec.ofNat 32 j).toNat) →
      (m.storeBytes buf 0 (rx.bytes.take n)).get a = m.get a) := by
  have htake : (rx.bytes.take n).length = n := by
    rw [List.length_take, Cb.length_bytes, Nat.min_eq_left hn]
  refine ⟨fun j hj => ?_, fun a ha => ?_⟩
  · have hget := Mem.get_storeBytes (buf := buf) (n := 0) (m := m) (rx.bytes.take n) (by omega) j (by omega)
    rw [Nat.zero_add, List.getElem?_take_of_lt hj] at hget
    exact hget
  · refine Mem.get_storeBytes_other _ fun j hj => ?_
    rw [Nat.zero_add]
    exact ha j (by omega)

/-- Settles O46: the loop stores the bytes in order, ends at the count or at an empty buffer, and stops before a store
outside RAM. -/
theorem uartReceiveDequeues : Obligations.UartReceiveDequeues := by
  intro s i buf count rx tx n hb h hbuf hin hslice
  have hlt := count.isLt
  refine ⟨fun hheld => ?completes, fun hheld hout => ?stops⟩
  case completes =>
    have side : RxSide ((s.setMask i .mrxr true).stored i rx buf 0 n) i (rx.dropN n) := h.rxSide.stored (by omega)
    have toEnd := side.recvEnds (buf := buf) (count := count) (p := n) fun hlt => by simp only [Cb.dropN]; omega
    have unmask := Runs.setMask (s := (s.setMask i .mrxr true).stored i rx buf 0 n)
      (fs := [.finish 0x34 3 (some (BitVec.ofNat 32 n)) none]) .mrxr false h.mode
      ((State.setMask_tst ..).trans h.noLoopback)
    have done := (((h.receiveRun hheld.le hin).trans toEnd).trans unmask).returned (k := s.slice + 1) (by omega)
    refine ⟨s.mem.storeBytes buf 0 (rx.bytes.take n), ?_, get_received (by omega) (by omega)⟩
    rw [h.exec_uartReceive hb hbuf, done]
    exact congrArg (fun t : State => Host.Outcome.next (t.returned 0x34 3 _))
      (State.setMask_setMask (s.stored i rx buf 0 n) i .mrxr true false)
  case stops =>
    have side : RxSide ((s.setMask i .mrxr true).stored i rx buf 0 n) i (rx.dropN n) := h.rxSide.stored (by omega)
    have hc : (rx.dropN n).count ≠ 0 := by simp only [Cb.dropN]; omega
    have run := h.receiveRun hheld.le hin
    rw [recvNext_of_lt (by omega)] at run
    have run := run.trans (side.recvPop hc _)
    obtain ⟨hmem, hother⟩ := get_received (m := s.mem) (buf := buf) (rx := rx) (n := n) (by omega) (by omega)
    have hfront : rx.bytes[n]? = some (rx.dropN n).front := by
      rw [← List.head?_drop, ← (Cb.dropN_spec n h.rxValid h.rxInv (by omega)).2,
        Cb.bytes_eq_cons side.valid side.inv hc]
      rfl
    have hdrop : (((s.setMask i .mrxr true).stored i rx buf 0 n).setCb (rxBuffer i) (rx.dropN n).drop).push
        [.recvStore i buf count (BitVec.ofNat 32 n) (rx.dropN n).front] =
        { s with
          uart := s.uart.set i { s.uart.get i with ucon := { (s.uart.get i).ucon with mrxr := true } }
          cb := s.cb.set (rxHandle i) (rx.dropN (n + 1))
          mem := s.mem.storeBytes buf 0 (rx.bytes.take n)
          cur := { s.cur with
            todo := .recvStore i buf count (BitVec.ofNat 32 n) (rx.dropN n).front :: s.cur.todo } } := by
      rw [Cb.dropN_drop, State.stored, State.setCb, List.set_set]
      rfl
    have stops := run.faults (k := s.slice + 1) (recvStore_outside hout) (by omega)
    refine ⟨_, _, hfront, (h.exec_uartReceive hb hbuf count).trans (congrArg _ (stops.trans hdrop)), ?_, hmem, hother⟩
    refine (Machine.exec_uartReceive _ i hbuf count).trans ((operation_resumes rfl).trans ?_)
    exact burst_fault (s := { s with
      uart := s.uart.set i { s.uart.get i with ucon := { (s.uart.get i).ucon with mrxr := true } }
      cb := s.cb.set (rxHandle i) (rx.dropN (n + 1))
      mem := s.mem.storeBytes buf 0 (rx.bytes.take n) }) (recvStore_outside hout)

end Sys2Proof.Machine
end

section
/-! PROOF. The ISR (45 R349): the receive side, the transmit side, and the interrupt return after both. -/

namespace Sys2Proof.Machine

/-! ### The receive side -/

/-- The state once `k` bytes of the receive FIFO are in the receive buffer `rx'` and the receive mask bit is `b`. -/
def State.rxDone (s : State) (i : Uid) (rx' : Cb) (k : Nat) (b : Bool) : State :=
  { s with
    uart := s.uart.set i { s.uart.get i with
      rxfifo := (s.uart.get i).rxfifo.drop k
      ucon := { (s.uart.get i).ucon with mrxr := b } }
    cb := s.cb.set (rxBuffer i) rx' }

/-- The state once the transmit side is done, with `m` bytes handed over and the transmit mask bit `b`. -/
def State.txDone (s : State) (i : Uid) (tx : Cb) (m : Nat) (b : Bool) : State :=
  { s with
    uart := s.uart.set i { s.uart.get i with
      txfifo := (s.uart.get i).txfifo ++ tx.bytes.take m
      ucon := { (s.uart.get i).ucon with mtxr := b } }
    cb := s.cb.set (txBuffer i) (tx.dropN m) }

section ReceiveSide

variable {s : State} {i : Uid} {rx rx' : Cb} {st : Word} {k : Nat}

theorem State.rxDone_zero (h : RxSide s i rx) : s.rxDone i rx 0 (s.uart.get i).ucon.mrxr = s := by
  rw [State.rxDone, set_getElem?_self h.buffer, List.drop_zero]
  exact congrArg (fun uart => { s with uart := uart }) (Pair.set_get s.uart i)

theorem State.rxDone_setMask (b c : Bool) : (s.rxDone i rx' k b).setMask i .mrxr c = s.rxDone i rx' k c := by
  simp only [State.rxDone, State.setMask, State.setUart, Ucon.withMask, Pair.get_set, Pair.set_set, if_true]

theorem rxDone_uart (b : Bool) : (s.rxDone i rx' k b).uart.get i = { s.uart.get i with
    rxfifo := (s.uart.get i).rxfifo.drop k
    ucon := { (s.uart.get i).ucon with mrxr := b } } := by
  simp only [State.rxDone, Pair.get_set, if_true]

theorem State.rxDone_rxDone (j : Nat) (rx'' : Cb) (b c : Bool) :
    (s.rxDone i rx' k b).rxDone i rx'' j c = s.rxDone i rx'' (k + j) c := by
  simp only [State.rxDone, Pair.get_set, Pair.set_set, if_true, List.set_set, List.drop_drop]

/-- In the ISR a changed receive side may be used further. -/
theorem RxSide.rxDone (h : RxSide s i rx) (hc : s.ctx ≠ .fg) (hv : rx'.valid = true) (hi : rx'.Inv) (b : Bool) :
    RxSide (s.rxDone i rx' k b) i rx' :=
  ⟨h.mode, List.getElem?_set_self (List.getElem?_eq_some_iff.mp h.buffer).1, hv, hi, .inl hc⟩

theorem RxSide.cbIsFull (h : RxSide s i rx) (fs : List Frame) :
    Machine.cbIsFull (s.push fs) (rxBuffer i) = .ok rx.full := by
  rw [Machine.cbIsFull, show Machine.bufferAt (s.push fs) (rxBuffer i) = _ from h.bufferAt]
  rfl

theorem RxSide.cbWrite (h : RxSide s i rx) (hroom : rx.count < rx.cap) (x : Byte) (fs : List Frame) :
    Machine.cbWrite (s.push fs) (rxBuffer i) x = .ok ((s.setCb (rxBuffer i) (rx.put x)).push fs) := by
  rw [Machine.cbWrite, show Machine.bufferAt (s.push fs) (rxBuffer i) = _ from h.bufferAt, Res.bind_ok,
    Cb.full_of_lt hroom]
  rfl

theorem RxSide.isrRxTest (h : RxSide s i rx) : Runs 1 (s.push [.isrRxTest i st])
    (s.push (if rx.full then [.isrRxCall i st] else [.isrRxLevel i st])) := by
  refine Runs.frame ?_
  simp only [frame, h.cbIsFull, Res.map_ok, Micro.ofRes]
  rfl

theorem Runs.isrRxLevel (hm : s.mode = .privileged) (hd : (s.uart.get i).rxfifo.length ≤ 63) :
    Runs 1 (s.push [.isrRxLevel i st])
      (s.push (if (s.uart.get i).rxfifo = [] then [.isrRxCall i st] else [.isrRxData i st])) := by
  refine Runs.frame ?_
  simp only [Machine.frame, regRead_privileged (s := s.push []) _ hm, readRule, Res.map_ok, Micro.ofRes,
    State.push_uart, ofNat_eq_zero_iff hd, List.length_eq_zero_iff]
  rfl

/-- With room and a byte in the FIFO the ISR moves it into the buffer. -/
theorem RxSide.isrRxByte (h : RxSide s i rx) (hc : s.ctx ≠ .fg) (hd : (s.uart.get i).rxfifo.length ≤ 63)
    (hroom : rx.count < rx.cap) {x : Byte} {q : List Byte} (hx : (s.uart.get i).rxfifo = x :: q) :
    Runs 4 (s.push [.isrRxTest i st])
      ((s.rxDone i (rx.put x) 1 (s.uart.get i).ucon.mrxr).push [.isrRxTest i st]) := by
  have test := h.isrRxTest (st := st)
  rw [Cb.full_of_lt hroom, if_neg Bool.false_ne_true] at test
  have level := Runs.isrRxLevel (st := st) h.mode hd
  rw [if_neg (by simp [hx])] at level
  have data : Runs 1 (s.push [.isrRxData i st])
      ((s.setUart i { s.uart.get i with rxfifo := q }).push [.isrRxPut i st x]) := by
    refine Runs.frame ?_
    simp only [frame, regRead_udata (s := s.push []) h.mode hx, Res.map_ok, Micro.ofRes, lowByte_zextByte]
    rfl
  have put : Runs 1 ((s.setUart i { s.uart.get i with rxfifo := q }).push [.isrRxPut i st x])
      (((s.setUart i { s.uart.get i with rxfifo := q }).setCb (rxBuffer i) (rx.put x)).push [.isrRxTest i st]) := by
    refine Runs.frame ?_
    have side : RxSide (s.setUart i { s.uart.get i with rxfifo := q }) i rx :=
      ⟨h.mode, h.buffer, h.valid, h.inv, .inl hc⟩
    simp only [frame, side.cbWrite hroom, Res.map_ok, Micro.ofRes]
    rfl
  have hdone : s.rxDone i (rx.put x) 1 (s.uart.get i).ucon.mrxr =
      (s.setUart i { s.uart.get i with rxfifo := q }).setCb (rxBuffer i) (rx.put x) := by
    rw [State.rxDone, hx]
    rfl
  rw [hdone]
  exact ((test.trans level).trans data).trans put

/-- Bytes that are there and fit are moved into the buffer in order. -/
theorem RxSide.isrRxLoop (k : Nat) : ∀ {s : State} {rx : Cb}, RxSide s i rx → s.ctx ≠ .fg →
    (s.uart.get i).rxfifo.length ≤ 63 → k ≤ (s.uart.get i).rxfifo.length → rx.count + k ≤ rx.cap →
    ∃ rx', rx.Extends ((s.uart.get i).rxfifo.take k) rx' ∧ Runs (4 * k) (s.push [.isrRxTest i st])
      ((s.rxDone i rx' k (s.uart.get i).ucon.mrxr).push [.isrRxTest i st]) := by
  induction k with
  | zero =>
    intro s rx h _ _ _ _
    refine ⟨rx, Cb.Extends.refl h.valid h.inv, ?_⟩
    rw [State.rxDone_zero h]
    exact Runs.refl _
  | succ k ih =>
    intro s rx h hc hd hk hfit
    obtain ⟨x, q, hx⟩ : ∃ x q, (s.uart.get i).rxfifo = x :: q :=
      List.exists_cons_of_length_pos (by omega)
    have hroom : rx.count < rx.cap := by omega
    have hput := Cb.inv_put (v := x) h.valid (Cb.full_of_lt hroom) h.inv
    have first := h.isrRxByte (st := st) hc hd hroom hx
    have hlen : (s.uart.get i).rxfifo.length = q.length + 1 := by rw [hx]; rfl
    have hfifo : ((s.rxDone i (rx.put x) 1 (s.uart.get i).ucon.mrxr).uart.get i).rxfifo = q := by
      rw [rxDone_uart, hx]
      rfl
    obtain ⟨rx', hext, rest⟩ := ih
      (h.rxDone (rx' := rx.put x) (k := 1) hc h.valid hput (s.uart.get i).ucon.mrxr) hc
      (by rw [hfifo]; omega) (by rw [hfifo]; omega) (by simp only [Cb.put]; omega)
    rw [hfifo] at hext
    rw [rxDone_uart, State.rxDone_rxDone, Nat.add_comm 1 k] at rest
    refine ⟨rx', ?_, (first.trans rest).mono (by omega)⟩
    rw [hx, List.take_succ_cons]
    exact hext.cons h.valid h.inv hroom

/-- With a full buffer or an empty FIFO the loop ends. -/
theorem RxSide.isrRxStop (h : RxSide s i rx) (hd : (s.uart.get i).rxfifo.length ≤ 63)
    (hend : rx.full = true ∨ (s.uart.get i).rxfifo = []) :
    Runs 2 (s.push [.isrRxTest i st]) (s.push [.isrRxCall i st]) := by
  have test := h.isrRxTest (st := st)
  cases hfull : rx.full
  · have level := Runs.isrRxLevel (st := st) h.mode hd
    rw [if_pos (hend.resolve_left (by simp [hfull]))] at level
    rw [hfull, if_neg Bool.false_ne_true] at test
    exact test.trans level
  · rw [hfull, if_pos rfl] at test
    exact test.mono (by omega)

/-- With no callback set the ISR goes on to the end of the receive side, which masks at a full buffer. -/
theorem RxSide.isrRxEnd (h : RxSide s i rx) (hcb : (s.uart.get i).rxCb = 0) (ht : (s.uart.get i).ucon.tst = false) :
    Runs 4 (s.push [.isrRxCall i st])
      ((s.setMask i .mrxr (if rx.full then true else (s.uart.get i).ucon.mrxr)).push [.isrTxMask i st]) := by
  have call : Runs 1 (s.push [.isrRxCall i st]) (s.push [.isrRxEnd i st]) := by
    refine Runs.frame ?_
    simp only [frame, State.push_uart, callFrames, hcb, if_true]
    rfl
  have test : Runs 1 (s.push [.isrRxEnd i st])
      (s.push (if rx.full then [.maskRead i .mrxr true, .isrTxMask i st] else [.isrTxMask i st])) := by
    refine Runs.frame ?_
    simp only [frame, h.cbIsFull, Res.map_ok, Micro.ofRes]
    rfl
  refine (call.trans (n := 1) (m := 3) ?_)
  cases hfull : rx.full
  · rw [hfull, if_neg Bool.false_ne_true] at test
    rw [if_neg Bool.false_ne_true, State.setMask_mrxr_self]
    exact test.mono (by omega)
  · rw [hfull, if_pos rfl] at test
    rw [if_pos rfl]
    exact test.trans (Runs.setMask .mrxr true h.mode ht)

/-- The receive side where receive is ready and unmasked. -/
theorem RxSide.isrRxOn (h : RxSide s i rx) (hc : s.ctx ≠ .fg) (hd : (s.uart.get i).rxfifo.length ≤ 63)
    (hcb : (s.uart.get i).rxCb = 0) (ht : (s.uart.get i).ucon.tst = false)
    (hk : k = min (s.uart.get i).rxfifo.length (rx.cap - rx.count)) :
    ∃ rx', rx.Extends ((s.uart.get i).rxfifo.take k) rx' ∧ Runs (4 * k + 6) (s.push [.isrRxTest i st])
      ((s.rxDone i rx' k (if rx.count + k = rx.cap then true else (s.uart.get i).ucon.mrxr)).push
        [.isrTxMask i st]) := by
  obtain ⟨-, -, hle, -⟩ := h.inv.2 h.valid
  obtain ⟨rx', hext, loop⟩ := RxSide.isrRxLoop (st := st) k h hc hd (by omega) (by omega)
  have side := h.rxDone (k := k) hc hext.valid hext.inv (s.uart.get i).ucon.mrxr
  have hcount : rx'.count = rx.count + k := by
    rw [hext.count, List.length_take, Nat.min_eq_left (by omega)]
  have hfull : rx'.full = true ↔ rx.count + k = rx.cap := by
    rw [Cb.full, beq_iff_eq, hcount, hext.cap]
  have hleft : ((s.rxDone i rx' k (s.uart.get i).ucon.mrxr).uart.get i).rxfifo.length =
      (s.uart.get i).rxfifo.length - k := by
    rw [rxDone_uart, List.length_drop]
  have stop := side.isrRxStop (st := st) (by omega) (by
    rw [hfull, ← List.length_eq_zero_iff, hleft]
    omega)
  have toEnd := side.isrRxEnd (st := st) (by rw [rxDone_uart]; exact hcb) (by rw [rxDone_uart]; exact ht)
  rw [State.rxDone_setMask, rxDone_uart] at toEnd
  simp only [hfull] at toEnd
  exact ⟨rx', hext, ((loop.trans stop).trans toEnd).mono (by omega)⟩

/-- 45 R349: the ISR's receive side, on or off. -/
theorem RxSide.isrRx (h : RxSide s i rx) (hc : s.ctx ≠ .fg) (hd : (s.uart.get i).rxfifo.length ≤ 63)
    (hcb : (s.uart.get i).rxCb = 0) (ht : (s.uart.get i).ucon.tst = false) (on : Prop) [Decidable on]
    (hon : on ↔ bitOf st 6 = true ∧ (s.uart.get i).ucon.mrxr = false)
    (hk : k = if on then min (s.uart.get i).rxfifo.length (rx.cap - rx.count) else 0) :
    ∃ rx', rx.Extends ((s.uart.get i).rxfifo.take k) rx' ∧ Runs (4 * k + 7) (s.push [.isrRxMask i st])
      ((s.rxDone i rx' k (if on ∧ rx.count + k = rx.cap then true else (s.uart.get i).ucon.mrxr)).push
        [.isrTxMask i st]) := by
  have test : Runs 1 (s.push [.isrRxMask i st]) (s.push (if on then [.isrRxTest i st] else [.isrTxMask i st])) := by
    refine Runs.frame ?_
    simp only [frame, regRead_ucon (s := s.push []) i h.mode, Res.map_ok, Micro.ofRes, State.push_uart,
      show bitOf _ 13 = _ from (bitOf_uconWord _).1, Bool.and_eq_true, Bool.not_eq_true', ← hon]
    rfl
  by_cases honp : on
  · rw [if_pos honp] at test hk
    obtain ⟨rx', hext, run⟩ := h.isrRxOn (st := st) hc hd hcb ht hk
    simp only [honp, true_and]
    exact ⟨rx', hext, (test.trans run).mono (by omega)⟩
  · rw [if_neg honp] at test hk
    subst hk
    refine ⟨rx, Cb.Extends.refl h.valid h.inv, ?_⟩
    simp only [honp, false_and, if_false]
    rw [State.rxDone_zero h]
    exact test.mono (by omega)

end ReceiveSide

/-! ### The transmit side -/

section TransmitSide

variable {s : State} {i : Uid} {tx : Cb} {st : Word} {m : Nat}

theorem State.handedOver_setMask (c : Bool) : (s.handedOver i tx m).setMask i .mtxr c = s.txDone i tx m c := by
  simp only [State.handedOver, State.txDone, State.setMask, State.setUart, Ucon.withMask, Pair.get_set, Pair.set_set,
    if_true]

theorem TxSide.cbIsEmpty (h : TxSide s i tx) (fs : List Frame) :
    Machine.cbIsEmpty (s.push fs) (txBuffer i) = .ok tx.empty := by
  rw [Machine.cbIsEmpty, show Machine.bufferAt (s.push fs) (txBuffer i) = _ from h.bufferAt]
  rfl

theorem TxSide.isrTxTest (h : TxSide s i tx) : Runs 1 (s.push [.isrTxTest i])
    (s.push (if tx.count = 0 then [.isrTxCall i] else [.isrTxLevel i])) := by
  refine Runs.frame ?_
  simp only [frame, h.cbIsEmpty, Res.map_ok, Micro.ofRes, Cb.empty, beq_iff_eq]
  rfl

theorem TxSide.isrTxLevel (h : TxSide s i tx) : Runs 1 (s.push [.isrTxLevel i])
    (s.push (if txFree s i = 0 then [.isrTxCall i] else [.popToUdata i, .isrTxTest i])) := by
  refine Runs.frame ?_
  have hle : txFree s i ≤ 63 := (Nat.sub_le _ _).trans h.depth
  simp only [frame, regRead_privileged (s := s.push []) _ h.mode, readRule, Res.map_ok, Micro.ofRes,
    show txFree (s.push []) i = txFree s i from rfl, ofNat_eq_zero_iff hle]
  rfl

/-- Bytes that are there and fit are handed over in order. -/
theorem TxSide.isrTxLoop (m : Nat) : ∀ {s : State} {tx : Cb}, TxSide s i tx → m ≤ tx.count → m ≤ txFree s i →
    Runs (4 * m) (s.push [.isrTxTest i]) ((s.handedOver i tx m).push [.isrTxTest i]) := by
  induction m with
  | zero =>
    intro s tx h _ _
    rw [h.handedOver_zero]
    exact Runs.refl _
  | succ m ih =>
    intro s tx h hm hroom
    have hc : tx.count ≠ 0 := by omega
    have test := h.isrTxTest
    rw [if_neg hc] at test
    have level := h.isrTxLevel
    rw [if_neg (by omega)] at level
    have hfree := txFree_handedOver (s := s) (i := i) (tx := tx) (n := 1) (by omega)
    have rest := ih (h.handedOver hc) (Nat.le_sub_one_of_lt hm) (by omega)
    rw [h.handedOver_succ hc] at rest
    exact (((test.trans level).trans (h.popToUdata hc (by omega))).trans rest).mono (by omega)

/-- With an empty buffer or no room the loop ends. -/
theorem TxSide.isrTxStop (h : TxSide s i tx) (hend : tx.count = 0 ∨ txFree s i = 0) :
    Runs 2 (s.push [.isrTxTest i]) (s.push [.isrTxCall i]) := by
  have test := h.isrTxTest
  by_cases hc : tx.count = 0
  · rw [if_pos hc] at test
    exact test.mono (by omega)
  · have level := h.isrTxLevel
    rw [if_pos (hend.resolve_left hc)] at level
    rw [if_neg hc] at test
    exact test.trans level

/-- With no callback set the ISR goes on to the end of the transmit side, which masks at an empty buffer. -/
theorem TxSide.isrTxEnd (h : TxSide s i tx) (hcb : (s.uart.get i).txCb = 0) (ht : (s.uart.get i).ucon.tst = false) :
    Runs 4 (s.push [.isrTxCall i])
      ((s.setMask i .mtxr (if tx.count = 0 then true else (s.uart.get i).ucon.mtxr)).push [.isrReturn]) := by
  have call : Runs 1 (s.push [.isrTxCall i]) (s.push [.isrTxEnd i]) := by
    refine Runs.frame ?_
    simp only [frame, State.push_uart, callFrames, hcb, if_true]
    rfl
  have test : Runs 1 (s.push [.isrTxEnd i])
      (s.push (if tx.count = 0 then [.maskRead i .mtxr true, .isrReturn] else [.isrReturn])) := by
    refine Runs.frame ?_
    simp only [frame, h.cbIsEmpty, Res.map_ok, Micro.ofRes, Cb.empty, beq_iff_eq]
    rfl
  refine (call.trans (n := 1) (m := 3) ?_)
  by_cases hc : tx.count = 0
  · rw [if_pos hc] at test ⊢
    exact test.trans (Runs.setMask .mtxr true h.mode ht)
  · rw [if_neg hc] at test ⊢
    rw [State.setMask_mtxr_self]
    exact test.mono (by omega)

/-- The transmit side where transmit is ready and unmasked. -/
theorem TxSide.isrTxOn (h : TxSide s i tx) (hc : s.ctx ≠ .fg) (hcb : (s.uart.get i).txCb = 0)
    (ht : (s.uart.get i).ucon.tst = false) (hm : m = min tx.count (txFree s i)) :
    Runs (4 * m + 6) (s.push [.isrTxTest i])
      ((s.txDone i tx m (if tx.count = m then true else (s.uart.get i).ucon.mtxr)).push [.isrReturn]) := by
  have loop := TxSide.isrTxLoop m h (by omega) (by omega)
  have side : TxSide (s.handedOver i tx m) i (tx.dropN m) :=
    ⟨h.mode, h.depth, List.getElem?_set_self (List.getElem?_eq_some_iff.mp h.buffer).1, h.valid,
      (Cb.dropN_spec m h.valid h.inv (by omega)).1, .inl hc⟩
  have hfree := txFree_handedOver (s := s) (i := i) (tx := tx) (n := m) (by omega)
  have hcount : (tx.dropN m).count = tx.count - m := rfl
  have stop := side.isrTxStop (by omega)
  have huart : (s.handedOver i tx m).uart.get i = { s.uart.get i with
      txfifo := (s.uart.get i).txfifo ++ tx.bytes.take m } := by
    simp only [State.handedOver, Pair.get_set, if_true]
  have toEnd := side.isrTxEnd (by rw [huart]; exact hcb) (by rw [huart]; exact ht)
  have hempty : (tx.dropN m).count = 0 ↔ tx.count = m := by omega
  rw [State.handedOver_setMask, huart] at toEnd
  simp only [hempty] at toEnd
  exact ((loop.trans stop).trans toEnd).mono (by omega)

/-- 45 R349: the ISR's transmit side, on or off. -/
theorem TxSide.isrTx (h : TxSide s i tx) (hc : s.ctx ≠ .fg) (hcb : (s.uart.get i).txCb = 0)
    (ht : (s.uart.get i).ucon.tst = false) (on : Prop) [Decidable on]
    (hon : on ↔ bitOf st 7 = true ∧ (s.uart.get i).ucon.mtxr = false)
    (hm : m = if on then min tx.count (txFree s i) else 0) :
    Runs (4 * m + 7) (s.push [.isrTxMask i st])
      ((s.txDone i tx m (if on ∧ tx.count = m then true else (s.uart.get i).ucon.mtxr)).push [.isrReturn]) := by
  have test : Runs 1 (s.push [.isrTxMask i st]) (s.push (if on then [.isrTxTest i] else [.isrReturn])) := by
    refine Runs.frame ?_
    simp only [frame, regRead_ucon (s := s.push []) i h.mode, Res.map_ok, Micro.ofRes, State.push_uart,
      show bitOf _ 14 = _ from (bitOf_uconWord _).2, Bool.and_eq_true, Bool.not_eq_true', ← hon]
    rfl
  by_cases honp : on
  · rw [if_pos honp] at test hm
    simp only [honp, true_and]
    exact (test.trans (h.isrTxOn hc hcb ht hm)).mono (by omega)
  · rw [if_neg honp] at test hm
    subst hm
    simp only [honp, false_and, if_false]
    have hself : s.txDone i tx 0 (s.uart.get i).ucon.mtxr = s := by
      rw [State.txDone, Cb.dropN_zero h.valid h.inv, set_getElem?_self h.buffer, List.take_zero, List.append_nil]
      exact congrArg (fun uart => { s with uart := uart }) (Pair.set_get s.uart i)
    rw [hself]
    exact test.mono (by omega)

end TransmitSide

/-! ### The whole ISR -/

section WholeIsr

variable {s : State} {i : Uid} {rx tx rx' : Cb} {k m : Nat}

/-- The read of the status clears the latched errors. -/
def State.clearErrors (s : State) (i : Uid) : State := s.setUart i { s.uart.get i with err := ErrFlags.clear }

theorem clearErrors_uart : (s.clearErrors i).uart.get i = { s.uart.get i with err := ErrFlags.clear } := by
  simp only [State.clearErrors, State.setUart_uart, Pair.get_set, if_true]

theorem frame_isrStatus (i : Uid) (hm : s.mode = .privileged) : frame (.isrStatus i) (s.push []) =
    .go ((s.clearErrors i).push [.isrRxMask i (statusWord s i)]) := by
  simp only [frame, regRead_privileged (s := s.push []) _ hm, readRule, Res.map_ok, Micro.ofRes]
  rfl

/-- 45 R349: the ISR from its first step to its return. -/
theorem Driver.isrRun (h : Driver s i rx tx) (hc : s.ctx ≠ .fg) (hrx : (s.uart.get i).rxCb = 0)
    (htx : (s.uart.get i).txCb = 0)
    (rxOn txOn : Prop) [Decidable rxOn] [Decidable txOn]
    (hrxOn : rxOn ↔ ReceiveReady s i ∧ (s.uart.get i).ucon.mrxr = false)
    (htxOn : txOn ↔ TransmitReady s i ∧ (s.uart.get i).ucon.mtxr = false)
    (hk : k = if rxOn then min (s.uart.get i).rxfifo.length (rx.cap - rx.count) else 0)
    (hm : m = if txOn then min tx.count (txFree s i) else 0) :
    ∃ rx', rx.Extends ((s.uart.get i).rxfifo.take k) rx' ∧
      Runs (4 * k + 4 * m + 15) (s.push [.isrStatus i])
        ((((s.clearErrors i).rxDone i rx' k
          (if rxOn ∧ rx.count + k = rx.cap then true else (s.uart.get i).ucon.mrxr)).txDone i tx m
          (if txOn ∧ tx.count = m then true else (s.uart.get i).ucon.mtxr)).push [.isrReturn]) := by
  obtain ⟨htransmit, hreceive, -⟩ := isStatus_statusWord s i
  have rxSide : RxSide (s.clearErrors i) i rx := ⟨h.mode, h.rxAt, h.rxValid, h.rxInv, .inl hc⟩
  have huart := clearErrors_uart (s := s) (i := i)
  obtain ⟨rx', hext, rxRun⟩ := rxSide.isrRx (st := statusWord s i) (k := k) hc (by rw [huart]; exact h.rxLevel)
    (by rw [huart]; exact hrx) (by rw [huart]; exact h.noLoopback) rxOn
    (by rw [huart, hrxOn, ← hreceive]; rfl) (by rw [huart]; exact hk)
  rw [huart] at hext rxRun
  have htxAt : (s.cb.set (rxBuffer i) rx')[txBuffer i]? = some tx :=
    (List.getElem?_set_ne (by simp only [rxBuffer, txBuffer]; omega)).trans h.txAt
  have txSide (b : Bool) : TxSide ((s.clearErrors i).rxDone i rx' k b) i tx :=
    ⟨h.mode, h.txDepth, htxAt, h.txValid, h.txInv, .inl hc⟩
  have hdone (b : Bool) : ((s.clearErrors i).rxDone i rx' k b).uart.get i = { s.uart.get i with
      err := ErrFlags.clear
      rxfifo := (s.uart.get i).rxfifo.drop k
      ucon := { (s.uart.get i).ucon with mrxr := b } } := by
    rw [rxDone_uart, huart]
  have txRun (b : Bool) := (txSide b).isrTx (st := statusWord s i) (m := m) hc (by rw [hdone]; exact htx)
    (by rw [hdone]; exact h.noLoopback) txOn (by rw [hdone, htxOn, ← htransmit]; rfl)
    (by rw [hm, txFree, txFree, hdone]; rfl)
  simp only [hdone] at txRun
  exact ⟨rx', hext, (((Runs.frame (frame_isrStatus i h.mode)).trans rxRun).trans (txRun _)).mono (by omega)⟩

/-- The ISR's turn is a run from its status read to its return. -/
theorem Driver.runContext_isrStatus (h : Driver s i rx tx) {src : Nat} (hctx : s.ctx = .isr src)
    (htodo : s.cur.todo = [.isrStatus i]) (hrx : (s.uart.get i).rxCb = 0) (htx : (s.uart.get i).txCb = 0)
    (rxOn txOn : Prop) [Decidable rxOn] [Decidable txOn]
    (hrxOn : rxOn ↔ ReceiveReady s i ∧ (s.uart.get i).ucon.mrxr = false)
    (htxOn : txOn ↔ TransmitReady s i ∧ (s.uart.get i).ucon.mtxr = false)
    (hk : k = if rxOn then min (s.uart.get i).rxfifo.length (rx.cap - rx.count) else 0)
    (hm : m = if txOn then min tx.count (txFree s i) else 0) (hslice : 4 * k + 4 * m + 15 ≤ s.slice) :
    ∃ rx', rx.Extends ((s.uart.get i).rxfifo.take k) rx' ∧
      runContext s = .next (((((s.setTodo []).clearErrors i).rxDone i rx' k
          (if rxOn ∧ rx.count + k = rx.cap then true else (s.uart.get i).ucon.mrxr)).txDone i tx m
          (if txOn ∧ tx.count = m then true else (s.uart.get i).ucon.mtxr)).push []).interruptReturn := by
  have outside : callbackOf s.cur.todo = none := by rw [htodo]; rfl
  have hpush : (s.setTodo []).push [.isrStatus i] = s := State.push_setTodo_of_todo htodo
  obtain ⟨rx', hext, run⟩ := Driver.isrRun (s := s.setTodo []) (k := k) (m := m)
    ⟨h.initialized, h.mode, h.noLoopback, h.txDepth, h.rxLevel, h.rxAt, h.txAt, h.rxValid, h.txValid, h.rxInv,
      h.txInv⟩ (show s.ctx ≠ .fg by simp [hctx]) hrx htx rxOn txOn hrxOn htxOn hk hm
  have goes : burst ((s.setTodo []).push [.isrStatus i]) = .next (goOn (s.slice + 1) _) :=
    burst_eq_goOn (frame_isrStatus (s := s.setTodo []) i h.mode)
  rw [hpush] at goes run
  refine ⟨rx', hext, ?_⟩
  rw [runContext_isr hctx outside, goes, run.rests (atomic_push ..) (by omega), settle]
  rfl

end WholeIsr

/-- Settles O53: the ISR's turn is a run from its status read to its return. -/
theorem isrServesBothDirections : Obligations.IsrServesBothDirections := by
  intro s i src n ts sv rx tx hs ht hctx hsv htodo h hrx htx u rxOn txOn k m hslice
  have h' : Driver { s with sched := ts, slice := n } i rx tx := ⟨h.initialized, h.mode, h.noLoopback, h.txDepth,
    h.rxLevel, h.rxAt, h.txAt, h.rxValid, h.txValid, h.rxInv, h.txInv⟩
  obtain ⟨rx', hext, run⟩ := h'.runContext_isrStatus (k := k) (m := m) hctx htodo hrx htx rxOn txOn Iff.rfl Iff.rfl
    rfl rfl (show 4 * k + 4 * m + 15 ≤ n by omega)
  refine ⟨rx', hext.bytes, hext.valid, hext.cap, hext.base, hext.inv, ?_⟩
  rw [step_run hs ht, run]
  refine congrArg _ ((State.interruptReturn_isr (src := src) (sv := sv) ?_ ?_).trans ?_)
  · exact hctx
  · exact hsv
  simp only [State.push, State.setTodo, State.txDone, State.rxDone, State.clearErrors, State.setUart, Pair.get_set,
    Pair.set_set, if_true]
  rfl

end Sys2Proof.Machine
end

section
/-! PROOF. `uart.init` (45 R342): giving a pin to a UART, the buffers, the controller's entry, and the run through the
27 steps. -/

namespace Sys2Proof.Machine

/-! ### A pin given to a UART (45 R342, step 4) -/

/-- The state with one pin's direction set. -/
def State.setDir (s : State) (p : Pin) (out : Bool) : State :=
  let old := s.gpio.dir.get (Pin.port p)
  let dir := if out then old ||| Pin.mask p else old &&& ~~~Pin.mask p
  { s with gpio := { s.gpio with dir := s.gpio.dir.set (Pin.port p) dir } }

/-- What gives pin `p` to a UART writes to the pin's function-select register. -/
def uartFunctionWord (g : Gpio) (p : Pin) : Word :=
  (g.funcSel.get (Pin.funcReg p) &&& ~~~pinFuncMask p) ||| pinFuncValue p Config.uartPinFunc

/-- The state with pin `p` given to a UART and its direction set. -/
def State.pinGiven (s : State) (p : Pin) (out : Bool) : State :=
  (s.setFuncSel (Pin.funcReg p) (uartFunctionWord s.gpio p)).setDir p out

/-- 40 R147: every UART that pin `p` belongs to has its transmitter and receiver enabled. -/
def MayGive (s : State) (p : Pin) : Prop :=
  ∀ j : Uid, p ∈ (s.params.uartPins.get j).toList → (s.uart.get j).ucon.txe = true ∧ (s.uart.get j).ucon.rxe = true

theorem Pin.eq_of_funcReg_slot {p q : Pin} (hreg : Pin.funcReg q = Pin.funcReg p) (hslot : Pin.slot q = Pin.slot p) :
    q = p := by
  rw [funcReg_eq_iff, toNat_funcReg] at hreg
  simp only [Pin.slot] at hslot
  exact Fin.ext (by omega)

theorem Pin.eq_of_port_bit {p q : Pin} (hport : Pin.port q = Pin.port p) (hbit : Pin.bit q = Pin.bit p) : q = p := by
  simp only [Pin.bit] at hbit
  have hq := q.isLt
  have hp := p.isLt
  refine Fin.ext ?_
  unfold Pin.port at hport
  split_ifs at hport
  · omega
  · omega

section PinGiven

variable {s : State} {p : Pin} {out : Bool} {fs : List Frame}

theorem slotOf_uartFunctionWord (g : Gpio) {j : Nat} (hj : j < 16) : slotOf (uartFunctionWord g p) j =
    if j = Pin.slot p then 1 else slotOf (g.funcSel.get (Pin.funcReg p)) j := slotOf_pin_replaced _ _ _ hj

theorem not_muxTooEarly_pin (h : MayGive s p) :
    ¬ MuxTooEarly s (Pin.funcReg p) (uartFunctionWord s.gpio p) := by
  rintro ⟨j, q, hq, hreg, hold, hnew, hoff⟩
  have hreg : Pin.funcReg q = Pin.funcReg p := (funcReg_eq_iff q _).mpr hreg
  have hslot : Pin.slot q = Pin.slot p := by
    by_contra hne
    have hkeep := slotOf_uartFunctionWord (p := p) s.gpio (j := Pin.slot q) (Nat.mod_lt _ (by decide))
    rw [if_neg hne] at hkeep
    exact hold (hkeep.symm.trans hnew)
  obtain rfl := Pin.eq_of_funcReg_slot hreg hslot
  obtain ⟨htx, hrx⟩ := h j hq
  simp [htx, hrx] at hoff

/-- An undisturbed pin takes three steps. -/
theorem Runs.initPin (hm : s.mode = .privileged) (hr : ¬ Race s (Pin.funcReg p)) (hp : MayGive s p) :
    Runs 3 (s.push (Machine.initPin p out ++ fs)) ((s.pinGiven p out).push fs) := by
  have func : Runs 2 (s.push (Machine.initPin p out ++ fs))
      ((s.setFuncSel (Pin.funcReg p) (uartFunctionWord s.gpio p)).push
        (.regWrite (dirRegister (Pin.port p) out) (Pin.mask p) :: fs)) :=
    fun k => ⟨k, le_rfl, goOn_setFuncSel k hm hr (not_muxTooEarly_pin hp)⟩
  refine func.trans (m := 1) fun k => ⟨k, le_rfl, goOn_regWrite hm ?_⟩
  cases out <;> rfl

theorem pinFunc_pinGiven (q : Pin) : pinFunc (s.pinGiven p out).gpio q.val =
    if q = p then 1 else pinFunc s.gpio q.val := by
  rw [pinFunc_eq_slot, pinFunc_eq_slot]
  simp only [State.pinGiven, State.setDir, State.setFuncSel, Quad.get_set]
  by_cases hreg : Pin.funcReg q = Pin.funcReg p
  · have hslot : Pin.slot q < 16 := Nat.mod_lt _ (by decide)
    rw [if_pos hreg, slotOf_uartFunctionWord _ hslot, hreg]
    exact if_congr ⟨Pin.eq_of_funcReg_slot hreg, congrArg _⟩ rfl rfl
  · rw [if_neg hreg, if_neg (fun h => hreg (congrArg _ h))]

theorem getLsbD_pinMask (p : Pin) (b : Nat) : (Pin.mask p).getLsbD b = decide (b = Pin.bit p) := by
  have hbit : Pin.bit p < 32 := Nat.mod_lt _ (by decide)
  rw [Pin.mask, ← BitVec.twoPow_eq, BitVec.getLsbD_twoPow]
  simp [hbit, eq_comm]

theorem pinOut_pinGiven (q : Pin) : pinOut (s.pinGiven p out).gpio q.val =
    if q = p then out else pinOut s.gpio q.val := by
  rw [← isOutput_eq_pinOut, ← isOutput_eq_pinOut, isOutput, isOutput]
  simp only [State.pinGiven, State.setDir, State.setFuncSel, Pair.get_set]
  have hbit : Pin.bit q < 32 := Nat.mod_lt _ (by decide)
  by_cases hport : Pin.port q = Pin.port p
  · have heq : Pin.bit q = Pin.bit p ↔ q = p := ⟨Pin.eq_of_port_bit hport, congrArg _⟩
    have hmask : (Pin.mask p).getLsbD (Pin.bit q) = decide (q = p) :=
      (getLsbD_pinMask p _).trans (decide_eq_decide.mpr heq)
    rw [if_pos hport, hport, bitOf, bitOf]
    cases out
    · rw [if_neg Bool.false_ne_true, BitVec.getLsbD_and, BitVec.getLsbD_not, hmask]
      by_cases hq : q = p <;> simp [hq, hbit]
    · rw [if_pos rfl, BitVec.getLsbD_or, hmask]
      by_cases hq : q = p <;> simp [hq]
  · rw [if_neg hport, if_neg (fun h => hport (congrArg _ h))]

theorem Race.of_pinGiven {k : Four} (h : Race (s.pinGiven p out) k) : Race s k := by
  obtain ⟨hctx, old, hpend⟩ := h
  have hctx : s.ctx ≠ .fg := hctx
  simp only [State.pinGiven, State.setDir, State.setFuncSel, if_neg hctx] at hpend
  exact ⟨hctx, old, hpend⟩

end PinGiven

/-! ### The four pins -/

/-- The state with the pins of a list given to a UART, one after another. -/
def State.pinsGiven (s : State) (ps : List (Pin × Bool)) : State := ps.foldl (fun t x => t.pinGiven x.1 x.2) s

/-- Undisturbed pins take three steps each. -/
theorem Runs.initPins {fs : List Frame} (ps : List (Pin × Bool)) : ∀ {s : State}, s.mode = .privileged →
    (∀ k, ¬ Race s k) → (∀ x ∈ ps, MayGive s x.1) →
    Runs (3 * ps.length) (s.push (ps.flatMap (fun x => Machine.initPin x.1 x.2) ++ fs))
      ((s.pinsGiven ps).push fs) := by
  induction ps with
  | nil => exact fun _ _ _ => Runs.refl _
  | cons x ps ih =>
    intro s hm hr hp
    have first := Runs.initPin (out := x.2) (fs := ps.flatMap (fun x => Machine.initPin x.1 x.2) ++ fs) hm
      (hr (Pin.funcReg x.1)) (hp x List.mem_cons_self)
    have rest := ih (s := s.pinGiven x.1 x.2) hm (fun k h => hr k h.of_pinGiven)
      fun y hy => hp y (List.mem_cons_of_mem x hy)
    rw [List.flatMap_cons, List.append_assoc]
    exact (first.trans rest).mono (by rw [List.length_cons]; omega)

theorem State.pinsGiven_gpio (ps : List (Pin × Bool)) : ∀ s : State, s.pinsGiven ps =
    { s with
      gpio := { s.gpio with dir := (s.pinsGiven ps).gpio.dir, funcSel := (s.pinsGiven ps).gpio.funcSel }
      fselPending := if ps ≠ [] ∧ s.ctx = .fg then none else s.fselPending } := by
  induction ps with
  | nil => exact fun s => rfl
  | cons x ps ih =>
    intro s
    have hpend : (if ps ≠ [] ∧ s.ctx = .fg then none else if s.ctx = .fg then none else s.fselPending) =
        if x :: ps ≠ [] ∧ s.ctx = .fg then none else s.fselPending := by
      by_cases hc : s.ctx = .fg <;> simp [hc]
    rw [← hpend]
    exact ih (s.pinGiven x.1 x.2)

theorem pinFunc_pinsGiven (ps : List (Pin × Bool)) (q : Pin) : ∀ s : State,
    pinFunc (s.pinsGiven ps).gpio q.val = if q ∈ ps.map Prod.fst then 1 else pinFunc s.gpio q.val := by
  induction ps with
  | nil => exact fun s => rfl
  | cons x ps ih =>
    intro s
    rw [State.pinsGiven, List.foldl_cons]
    refine (ih (s.pinGiven x.1 x.2)).trans ?_
    rw [pinFunc_pinGiven]
    by_cases hx : q = x.1 <;> simp [hx]

/-- The pins of a UART with their directions (45 R342). -/
def UartPins.directed (p : UartPins) : List (Pin × Bool) := [(p.tx, true), (p.rx, false), (p.cts, true), (p.rts, false)]

theorem pinOut_directed {s : State} {pins : UartPins} (hnd : pins.toList.Nodup) (q : Pin) :
    pinOut (s.pinsGiven pins.directed).gpio q.val =
      if q = pins.tx ∨ q = pins.cts then true else if q = pins.rx ∨ q = pins.rts then false
      else pinOut s.gpio q.val := by
  simp only [State.pinsGiven, UartPins.directed, List.foldl_cons, List.foldl_nil, pinOut_pinGiven]
  simp only [UartPins.toList, List.nodup_cons, List.mem_cons, List.not_mem_nil, or_false, not_or] at hnd
  obtain ⟨⟨h1, h2, h3⟩, ⟨h4, h5⟩, h6, -⟩ := hnd
  by_cases htx : q = pins.tx
  · simp [htx, h1, h3]
  by_cases hcts : q = pins.cts
  · simp [hcts, h6]
  simp only [htx, hcts, or_self, if_false]
  by_cases hrts : q = pins.rts <;> by_cases hrx : q = pins.rx <;> simp [hrts, hrx]

end Sys2Proof.Machine
end

section
/-! PROOF. `uart.init` as a whole (45 R342): the control register, the pins, and the buffers, thresholds, controller
entry and registration that follow them. -/

namespace Sys2Proof.Machine

/-! ### The control register and the rate -/

theorem uconWrite_ok {s : State} {v : Word} (i : Uid) (hzero : v &&& uconMustBeZero = 0) (htst : bitOf v 15 = false) :
    uconWrite s i v = .ok (s.setUart i { s.uart.get i with ucon := Ucon.ofWord v }) := by
  rw [uconWrite, if_neg (not_not.mpr hzero), if_neg (Bool.eq_false_iff.mp htst)]

/-- 45 R342, steps 1 to 3: both enables set, both interrupts masked, and the baud fields of `reg`. -/
def Uart.configured (u : Uart) (reg : Word) : Uart :=
  { u with
    ucon := {
      txe := true, rxe := true, pen := false, ep := false, st2 := false, tst := false, mrxr := true, mtxr := true }
    ubrInc := reg.extractLsb' 16 16
    ubrMod := reg.extractLsb' 0 16 }

section Steps

variable {s : State} {i : Uid} {fs : List Frame}

theorem Runs.regWrite {t : State} {r : Reg} {v : Word} (hm : s.mode = .privileged)
    (h : writeRule (s.push fs) v r = .ok (t.push fs)) : Runs 1 (s.push (.regWrite r v :: fs)) (t.push fs) :=
  fun k => ⟨k, le_rfl, goOn_regWrite hm h⟩

/-- The state with UART `i` changed by `f`. -/
def State.modUart (s : State) (i : Uid) (f : Uart → Uart) : State := s.setUart i (f (s.uart.get i))

theorem State.modUart_modUart (f g : Uart → Uart) : (s.modUart i f).modUart i g = s.modUart i (g ∘ f) := by
  simp only [State.modUart, State.setUart, Pair.get_set, Pair.set_set, if_true, Function.comp_apply]

theorem Runs.uconWrite {v : Word} (hm : s.mode = .privileged) (hzero : v &&& uconMustBeZero = 0)
    (htst : bitOf v 15 = false) : Runs 1 (s.push (.regWrite (.ucon i) v :: fs))
      ((s.modUart i (fun u => { u with ucon := Ucon.ofWord v })).push fs) :=
  Runs.regWrite hm (uconWrite_ok i hzero htst)

theorem Runs.ubrcntWrite {v : Word} (hm : s.mode = .privileged) : Runs 1 (s.push (.regWrite (.ubrcnt i) v :: fs))
    ((s.modUart i (fun u => { u with ubrInc := v.extractLsb' 16 16, ubrMod := v.extractLsb' 0 16 })).push fs) :=
  Runs.regWrite hm rfl

theorem Runs.initControl (reg : Word) (hm : s.mode = .privileged) :
    Runs 3 (s.push (.regWrite (.ucon i) 0x00006000 :: .regWrite (.ubrcnt i) reg :: .regWrite (.ucon i) 0x00006003 :: fs))
      ((s.modUart i (fun u => u.configured reg)).push fs) := by
  have run := (Runs.uconWrite (s := s) (i := i) (v := 0x00006000)
    (fs := .regWrite (.ubrcnt i) reg :: .regWrite (.ucon i) 0x00006003 :: fs) hm (by decide) (by decide)).trans
    ((Runs.ubrcntWrite (s := s.modUart i _) hm).trans
      (Runs.uconWrite (s := (s.modUart i _).modUart i _) hm (by decide) (by decide)))
  rw [State.modUart_modUart, State.modUart_modUart] at run
  have hucon : Ucon.ofWord 0x00006003 = {
      txe := true, rxe := true, pen := false, ep := false, st2 := false, tst := false, mrxr := true, mtxr := true } :=
    rfl
  rw [hucon] at run
  exact run

/-! ### The buffers, the thresholds and the controller's entry -/

theorem undisciplined_of_uninitialized {h : Nat} {d : Direction} (hu : (s.uart.get i).ustate = .uninitialized)
    (hh : uartOfBuffer h = some (i, d)) : undisciplined s h = false := by
  simp [undisciplined, hh, isrLive, hu]

/-- A fresh buffer of `cap` bytes. -/
def Cb.fresh (cap : Nat) (base : Word) : Cb := ⟨true, cap, base, 0, 0, 0, []⟩

theorem Runs.initBuffer {h cap : Nat} (hh : h < s.cb.length) (hcap : cap ≠ 0) (hd : undisciplined s h = false) :
    Runs 1 (s.push (.initBuffer h cap :: fs)) (((s.setCb h (Cb.fresh cap s.drawn)).afterDraw).push fs) := by
  refine Runs.frame ?_
  have hinit : cbInit (s.push fs) h s.drawn cap = .ok ((s.push fs).setCb h (Cb.fresh cap s.drawn)) := by
    rw [cbInit, State.push_cb, List.getElem?_eq_getElem hh]
    simp only [if_neg hcap]
    exact if_neg (Bool.eq_false_iff.mp hd)
  simp only [Machine.frame, show (s.push fs).drawn = s.drawn from rfl, hinit, Res.map_ok, Micro.ofRes]
  rfl

theorem frame_initPriority {src : Nat} {e : ItcEntry} (hm : s.mode = .privileged) (he : s.itc[src]? = some e) :
    frame (.initPriority src) (s.push fs) = .go ((s.setItc src { e with prio := .normal }).push fs) := by
  simp only [frame, itcSetPriority_zero (s := s.push fs) he, withSource_of_entry (s := s.push fs) he,
    privileged_of (s := s.push fs) hm, Micro.ofRes]
  rfl

theorem frame_initHandler {src : Nat} {e : ItcEntry} (hm : s.mode = .privileged) (he : s.itc[src]? = some e) :
    frame (.initHandler src i) (s.push fs) = .go ((s.setItc src { e with handler := some i }).push fs) := by
  simp only [frame, itcSetHandler, withSource_of_entry (s := s.push fs) he, privileged_of (s := s.push fs) hm,
    Micro.ofRes]
  rfl

theorem frame_initEnable {src : Nat} {e : ItcEntry} (hm : s.mode = .privileged) (he : s.itc[src]? = some e) :
    frame (.initEnable src) (s.push fs) = .go ((s.setItc src { e with enabled := true }).push fs) := by
  simp only [frame, itcEnableInterrupt, withSource_of_entry (s := s.push fs) he, privileged_of (s := s.push fs) hm,
    Micro.ofRes]
  rfl

/-- 45 R342, step 7: the three controller calls. -/
theorem Runs.initSource {src : Nat} {e : ItcEntry} (hm : s.mode = .privileged) (he : s.itc[src]? = some e) :
    Runs 3 (s.push (.initPriority src :: .initHandler src i :: .initEnable src :: fs))
      ((s.setItc src { enabled := true, prio := .normal, handler := some i }).push fs) := by
  have hlen := (List.getElem?_eq_some_iff.mp he).1
  have hget (e' : ItcEntry) : (s.setItc src e').itc[src]? = some e' := List.getElem?_set_self hlen
  have hset (e' e'' : ItcEntry) : (s.setItc src e').setItc src e'' = s.setItc src e'' := by
    simp only [State.setItc, List.set_set]
  have priority := Runs.frame (frame_initPriority (fs := .initHandler src i :: .initEnable src :: fs) hm he)
  have handler := Runs.frame (frame_initHandler (s := s.setItc src { e with prio := .normal }) (i := i)
    (fs := .initEnable src :: fs) hm (hget _))
  rw [hset] at handler
  have enable := Runs.frame (frame_initEnable
    (s := s.setItc src { e with prio := .normal, handler := some i }) (fs := fs) hm (hget _))
  rw [hset] at enable
  exact (priority.trans handler).trans enable

/-! ### The steps after the pins -/

/-- 45 R342, steps 5 to 9 and the registration: what is left once the pins are the UART's. -/
def initRest (i : Uid) (src : Nat) (name : Word) : List Frame :=
  [.initBuffer (rxBuffer i) Config.uartCbCapacity, .initBuffer (txBuffer i) Config.uartCbCapacity,
    .regWrite (.utxcon i) Config.txWatermark, .regWrite (.urxcon i) Config.rxWatermark,
    .initPriority src, .initHandler src i, .initEnable src, .initCallbacks i, .maskRead i .mrxr false,
    .initRegister i name, .finish 0x30 3 (some 0) none]

theorem initFrames_eq (i : Uid) (pins : UartPins) (src : Nat) (reg name : Word) :
    initFrames i pins src reg name =
      .regWrite (.ucon i) 0x00006000 :: .regWrite (.ubrcnt i) reg :: .regWrite (.ucon i) 0x00006003 ::
        (pins.directed.flatMap (fun x => initPin x.1 x.2) ++ initRest i src name) := rfl

/-- What the thresholds, the callbacks, the receive mask and the registration make of a UART. -/
def Uart.registered (u : Uart) : Uart :=
  { u with
    ucon := { u.ucon with mrxr := false }
    txThr := 31
    rxThr := 1
    ustate := .initialized
    rxCb := 0
    txCb := 0 }

/-- What the steps after the pins leave. -/
def State.registered (s : State) (i : Uid) (src : Nat) (name : Word) : State :=
  { s with
    uart := s.uart.set i (s.uart.get i).registered
    cb := (s.cb.set (rxBuffer i) (Cb.fresh 256 (Config.freeWord s.draws))).set (txBuffer i)
      (Cb.fresh 256 (Config.freeWord (s.draws + 1)))
    itc := s.itc.set src { enabled := true, prio := .normal, handler := some i }
    draws := s.draws + 2
    history := s.history ++ [.registered i name] }

/-- The state with UART `i`'s two buffers fresh (45 R342, step 5), their bases the next free values (log 16). -/
def State.buffersInit (s : State) (i : Uid) : State :=
  { s with
    cb := (s.cb.set (rxBuffer i) (Cb.fresh 256 (Config.freeWord s.draws))).set (txBuffer i)
      (Cb.fresh 256 (Config.freeWord (s.draws + 1)))
    draws := s.draws + 2 }

theorem Runs.initBuffers (hlen : 4 ≤ s.cb.length) (hu : (s.uart.get i).ustate = .uninitialized) :
    Runs 2 (s.push (.initBuffer (rxBuffer i) Config.uartCbCapacity ::
        .initBuffer (txBuffer i) Config.uartCbCapacity :: fs)) ((s.buffersInit i).push fs) := by
  have hi : i.toNat ≤ 1 := by cases i <;> decide
  have first := Runs.initBuffer (s := s) (h := rxBuffer i) (cap := Config.uartCbCapacity)
    (fs := .initBuffer (txBuffer i) Config.uartCbCapacity :: fs) (by rw [rxBuffer]; omega) (by decide)
    (undisciplined_of_uninitialized hu (uartOfBuffer_rx i))
  have second := Runs.initBuffer (h := txBuffer i) (cap := Config.uartCbCapacity) (fs := fs)
    (s := (s.setCb (rxBuffer i) (Cb.fresh Config.uartCbCapacity s.drawn)).afterDraw)
    (by simp only [State.afterDraw, State.setCb, List.length_set, txBuffer]; omega) (by decide)
    (undisciplined_of_uninitialized hu (uartOfBuffer_tx i))
  exact first.trans second

/-- 45 R342, step 6: the watermarks. -/
def Uart.thresholds (u : Uart) : Uart := { u with txThr := 31, rxThr := 1 }

theorem Runs.initThresholds (hm : s.mode = .privileged) :
    Runs 2 (s.push (.regWrite (.utxcon i) Config.txWatermark :: .regWrite (.urxcon i) Config.rxWatermark :: fs))
      ((s.modUart i Uart.thresholds).push fs) := by
  have transmit := Runs.regWrite (s := s) (t := s.modUart i (fun u => { u with txThr := 31 })) (r := .utxcon i)
    (v := Config.txWatermark) (fs := .regWrite (.urxcon i) Config.rxWatermark :: fs) hm rfl
  have receive (t : State) (ht : t.mode = .privileged) := Runs.regWrite (s := t)
    (t := t.modUart i (fun u => { u with rxThr := 1 })) (r := .urxcon i) (v := Config.rxWatermark) (fs := fs) ht rfl
  have run := transmit.trans (receive _ hm)
  rw [State.modUart_modUart] at run
  exact run

theorem Runs.initRegistration (name : Word) (hm : s.mode = .privileged) (ht : (s.uart.get i).ucon.tst = false) :
    Runs 4 (s.push (.initCallbacks i :: .maskRead i .mrxr false :: .initRegister i name :: fs))
      (((s.emit (.registered i name)).modUart i (fun u => { u with
        ucon := { u.ucon with mrxr := false }, ustate := .initialized, rxCb := 0, txCb := 0 })).push fs) := by
  have callbacks : Runs 1 (s.push (.initCallbacks i :: .maskRead i .mrxr false :: .initRegister i name :: fs))
      ((s.modUart i (fun u => { u with rxCb := 0, txCb := 0 })).push
        (.maskRead i .mrxr false :: .initRegister i name :: fs)) := Runs.frame rfl
  have mask := Runs.setMask (s := s.modUart i (fun u => { u with rxCb := 0, txCb := 0 })) (i := i)
    (fs := .initRegister i name :: fs) .mrxr false hm
    (by simpa only [State.modUart, State.setUart_uart, Pair.get_set, if_true] using ht)
  have register (t : State) : Runs 1 (t.push (.initRegister i name :: fs))
      (((t.emit (.registered i name)).modUart i (fun u => { u with ustate := .initialized })).push fs) :=
    Runs.frame rfl
  have run := (callbacks.trans mask).trans (register _)
  simp only [State.setMask, State.modUart, State.setUart, State.emit, Ucon.withMask, Pair.get_set, Pair.set_set,
    if_true] at run
  simpa only [State.modUart, State.setUart, State.emit] using run

theorem Runs.initRest {src : Nat} {name : Word} {e : ItcEntry} (hm : s.mode = .privileged)
    (hlen : 4 ≤ s.cb.length) (hu : (s.uart.get i).ustate = .uninitialized) (ht : (s.uart.get i).ucon.tst = false)
    (he : s.itc[src]? = some e) : Runs 11 (s.push (Machine.initRest i src name))
      ((s.registered i src name).push [.finish 0x30 3 (some 0) none]) := by
  have buffers := Runs.initBuffers (s := s) (i := i) (fs := .regWrite (.utxcon i) Config.txWatermark ::
    .regWrite (.urxcon i) Config.rxWatermark :: .initPriority src :: .initHandler src i :: .initEnable src ::
    .initCallbacks i :: .maskRead i .mrxr false :: .initRegister i name :: [.finish 0x30 3 (some 0) none]) hlen hu
  have thresholds := Runs.initThresholds (s := s.buffersInit i) (i := i) (fs := .initPriority src ::
    .initHandler src i :: .initEnable src :: .initCallbacks i :: .maskRead i .mrxr false :: .initRegister i name ::
    [.finish 0x30 3 (some 0) none]) hm
  have source := Runs.initSource (s := (s.buffersInit i).modUart i Uart.thresholds) (i := i)
    (fs := .initCallbacks i :: .maskRead i .mrxr false :: .initRegister i name :: [.finish 0x30 3 (some 0) none]) hm he
  have registration := Runs.initRegistration (i := i) (fs := [.finish 0x30 3 (some 0) none]) name
    (s := ((s.buffersInit i).modUart i Uart.thresholds).setItc src
      { enabled := true, prio := .normal, handler := some i }) hm
    (by simpa only [State.modUart, State.setUart, State.setItc, State.buffersInit, Uart.thresholds, Pair.get_set,
      if_true] using ht)
  have run := ((buffers.trans thresholds).trans source).trans registration
  simp only [State.modUart, State.setUart, State.setItc, State.emit, Pair.get_set, Pair.set_set, if_true] at run
  exact run

end Steps

/-! ### The whole operation -/

theorem frame_regWrite {s t : State} {r : Reg} {v : Word} {fs : List Frame} (hm : s.mode = .privileged)
    (h : writeRule (s.push fs) v r = .ok t) : frame (.regWrite r v) (s.push fs) = .go t := by
  rw [frame, regWrite_privileged (s := s.push fs) _ _ hm, h, Micro.ofRes]

/-- 70 R451: no pin belongs to both UARTs. -/
theorem uid_eq_of_mem_pins {s : State} (hl : launchOk s = true) {i j : Uid} {p : Pin}
    (hi : p ∈ (s.params.uartPins.get i).toList) (hj : p ∈ (s.params.uartPins.get j).toList) : i = j := by
  obtain ⟨-, -, -, -, -, -, -, -, hdisjoint⟩ := (launchOk_iff s).mp hl
  cases i <;> cases j
  · rfl
  · exact absurd hj (hdisjoint p hi)
  · exact absurd hi (hdisjoint p hj)
  · rfl

section Init

variable {s : State} {i : Uid} {reg name : Word} {e : ItcEntry}

/-- The state of the machine once the pins are the UART's. -/
def State.wired (s : State) (i : Uid) (reg : Word) : State :=
  (s.modUart i (fun u => u.configured reg)).pinsGiven (s.params.uartPins.get i).directed

theorem State.wired_eq : s.wired i reg =
    { s with
      gpio := { s.gpio with dir := (s.wired i reg).gpio.dir, funcSel := (s.wired i reg).gpio.funcSel }
      uart := s.uart.set i ((s.uart.get i).configured reg)
      fselPending := if s.ctx = .fg then none else s.fselPending } := by
  refine (State.pinsGiven_gpio _ _).trans ?_
  simp only [UartPins.directed, ne_eq, reduceCtorEq, not_false_eq_true, true_and]
  rfl

/-- With the UART's transmitter and receiver enabled its pins may be given to it. -/
theorem mayGive_configured (hl : launchOk s = true) {p : Pin} (hp : p ∈ (s.params.uartPins.get i).toList) :
    MayGive (s.modUart i (fun u => u.configured reg)) p := by
  intro j hj
  obtain rfl := uid_eq_of_mem_pins hl hp hj
  simp only [State.modUart, State.setUart_uart, Pair.get_set, if_true, Uart.configured, and_self]

/-- An undisturbed `uart.init` takes its 26 steps and comes to its completion. -/
theorem Runs.init (hm : s.mode = .privileged) (hl : launchOk s = true) (hr : ∀ k, ¬ Race s k)
    (hu : (s.uart.get i).ustate = .uninitialized) (he : s.itc[s.params.uartIrqSrc.get i]? = some e) :
    Runs 26 (s.push (initFrames i (s.params.uartPins.get i) (s.params.uartIrqSrc.get i) reg name))
      (((s.wired i reg).registered i (s.params.uartIrqSrc.get i) name).push [.finish 0x30 3 (some 0) none]) := by
  obtain ⟨-, hlen, -⟩ := (launchOk_iff s).mp hl
  have huart : (s.wired i reg).uart.get i = (s.uart.get i).configured reg := by
    rw [State.wired_eq, Pair.get_set, if_pos rfl]
  have pins := Runs.initPins (s := s.modUart i (fun u => u.configured reg))
    (fs := Machine.initRest i (s.params.uartIrqSrc.get i) name) (s.params.uartPins.get i).directed hm hr
    fun x hx => mayGive_configured hl (List.mem_map_of_mem (f := Prod.fst) hx)
  have rest := Runs.initRest (s := s.wired i reg) (i := i) (name := name) hm hlen (by rw [huart]; exact hu)
    (by rw [huart]; rfl) he
  rw [initFrames_eq]
  exact ((Runs.initControl reg hm).trans pins).trans rest

theorem exec_uartInit_begins (hb : s.atStart = true) (hm : s.mode = .privileged)
    (hu : (s.uart.get i).ustate = .uninitialized) (hname : name ≠ 0) {baud : Word}
    (hreg : baudReg s.params.coreClockHz baud = .ok reg) :
    exec (.uartInit (BitVec.ofNat 32 i.toNat) baud name) s = .next (goOn (s.slice + 1)
      (s.push (initFrames i (s.params.uartPins.get i) (s.params.uartIrqSrc.get i) reg name))) := by
  rw [exec_uartInit_uninitialized s i hu hname, hreg, Res.map_ok, operation_go hb]
  exact burst_eq_goOn (frame_regWrite hm (uconWrite_ok i (by decide) (by decide)))

end Init

/-- Settles O42: the 26 steps one after another, and the completion. -/
theorem uartInitialisation : Obligations.UartInitialisation := by
  intro s i baud name reg e hb hslice hm hl hr hu hname hreg hnd he pins fresh
  refine ⟨(s.wired i reg).gpio.dir, (s.wired i reg).gpio.funcSel, ?_, fun p => ⟨?_, ?_⟩⟩
  · rw [exec_uartInit_begins hb hm hu hname hreg, (Runs.init hm hl hr hu he).returned (by omega)]
    refine congrArg (fun t : State => Host.Outcome.next (t.returned 0x30 3 0)) ?_
    have hwired := State.wired_eq (s := s) (i := i) (reg := reg)
    generalize (s.wired i reg).gpio.dir = d, (s.wired i reg).gpio.funcSel = q at hwired ⊢
    rw [hwired]
    simp only [State.registered, Pair.get_set, Pair.set_set, if_true]
    rfl
  · exact pinFunc_pinsGiven pins.directed p (s.modUart i (fun u => u.configured reg))
  · exact pinOut_directed (s := s.modUart i (fun u => u.configured reg)) hnd p

end Sys2Proof.Machine
end
